-- ==== Sys2Proof/Word.lean ====
section
/-! DEFINITION. The word types of the block: a byte of a WRITE's buffer and the 32-bit command word
(spec/30_encoding.md R53). All values are unsigned (spec/00_scope.md R11). -/

namespace Sys2Proof

/-- One byte of a request's buffer (spec/30_encoding.md R60, `BufByte(i)`). -/
abbrev Byte := BitVec 8

/-- The 32-bit command word (spec/30_encoding.md R53). -/
abbrev Word := BitVec 32

end Sys2Proof
end

