-- ==== Sys2Proof/Syntax.lean ====
section
/-! DEFINITION. Callers, requests as they stand at the request port, the five encoding formats, and the operations of
spec/opcode_table.json as one inductive, one constructor per row. -/

namespace Sys2Proof

/-- Who issues a request: host caller `id`, or the lifecycle caller `LC` (spec/42_session.md R93). -/
inductive Caller
  | host (id : Nat)
  | lc
deriving DecidableEq, Repr

/-- A request at the request port (spec/30_encoding.md R60): `OP`, `CALLER`, `LEN` and `BUF`. -/
structure Request where
  op     : BitVec 3
  caller : Caller
  len    : Nat
  buf    : List Byte
deriving DecidableEq, Repr

/-- The formats of spec/opcode_table.json (spec/30_encoding.md R68). Which format is read depends on the agent that moves
and on the Transmitter's position; the code alone does not tell. -/
inductive Format
  | hostRequest
  | phase
  | symbol
  | seqIndex
  | timing
deriving DecidableEq, Repr

/-- What the block decodes: a format with its code, and for a request its operand fields. -/
inductive Encoding
  /-- A host request, selected by `OP` (R61). -/
  | request (r : Request)
  /-- The Transmitter's `PHASE` code (R20, R58). -/
  | phase (code : BitVec 2)
  /-- The 2-bit code of the slot being sent (R57). -/
  | symbol (code : BitVec 2)
  /-- The sequencer position `SYMIDX` past the symbols (R58). -/
  | seqIndex (code : BitVec 4)
  /-- `HOLDING` (R28). -/
  | timing (code : BitVec 1)
deriving DecidableEq, Repr

/-- The operations of spec/opcode_table.json. A request's `LEN` is kept for every operation, because a fault record names it
(spec/60_exceptions.md R111); only WRITE reads it. A WRITE carries its buffer, whose length is its `LEN`. -/
inductive Instr
  /-- OPEN, R99. -/
  | openReq (c : Caller) (len : Nat)
  /-- CLOSE, R100. -/
  | closeReq (c : Caller) (len : Nat)
  /-- READ, R101. -/
  | readReq (c : Caller) (len : Nat)
  /-- WRITE, R102, R103. -/
  | writeReq (c : Caller) (buf : List Byte)
  /-- STARTUP, R95. -/
  | startupReq (c : Caller) (len : Nat)
  /-- SHUTDOWN, R96. -/
  | shutdownReq (c : Caller) (len : Nat)
  /-- ENCODE, R77. -/
  | encode
  /-- SYM0, R81: one transition of symbol 0. -/
  | sym0
  /-- SYM1, R82: one transition of symbol 1. -/
  | sym1
  /-- SYM2, R83: one transition of symbol 2. -/
  | sym2
  /-- TERM, R84: one transition of the termination gap. -/
  | term
  /-- EXPIRE, R89, with ADVANCE, R90. -/
  | expire
deriving DecidableEq, Repr

end Sys2Proof
end

