-- ==== Sys2Proof/WellFormed.lean ====
section
/-! DEFINITION. Which requests and operations exist: caller ids are 0..N_CALLERS-1 or LC, and a WRITE presents the `LEN`
bytes it announces (spec/30_encoding.md R60). -/

namespace Sys2Proof

/-- The caller exists in a system of `n` host callers. -/
def Caller.wf (n : Nat) : Caller → Bool
  | .host id => Nat.blt id n
  | .lc => true

/-- The buffer of a WRITE holds exactly `LEN` bytes. Other operations do not read `BUF`. -/
def Request.bufferPresented (r : Request) : Bool :=
  r.op != 0b100#3 || r.buf.length == r.len

/-- A request of R60. -/
def Request.wf (n : Nat) (r : Request) : Bool :=
  r.caller.wf n && r.bufferPresented

/-- An operation of an existing agent. -/
def Instr.wf (n : Nat) : Instr → Bool
  | .openReq c _ => c.wf n
  | .closeReq c _ => c.wf n
  | .readReq c _ => c.wf n
  | .writeReq c _ => c.wf n
  | .startupReq c _ => c.wf n
  | .shutdownReq c _ => c.wf n
  | .encode => true
  | .sym0 => true
  | .sym1 => true
  | .sym2 => true
  | .term => true
  | .expire => true

/-- The issuing agent of the encoding exists. -/
def Encoding.callerExists (n : Nat) : Encoding → Bool
  | .request r => r.caller.wf n
  | .phase _ => true
  | .symbol _ => true
  | .seqIndex _ => true
  | .timing _ => true

end Sys2Proof
end

