-- ==== Sys2Proof/Decode.lean ====
section
/-! DEFINITION. The decoder, total on every encoding and rejecting by name; the opcode table as data; the decoder of a table
word; and, after them, the encoder (spec/30_encoding.md R57, R58, R60, R61, R64, R68). -/

namespace Sys2Proof

/-- Why an encoding is no operation. -/
inductive DecodeError
  /-- `OP` is 000 or 111 (R61, R64). -/
  | reservedOp
  /-- A WRITE whose buffer does not hold `LEN` bytes (R60). -/
  | bufferLength
  /-- A `PHASE` code other than 01 selects no operation by itself (R68). -/
  | phaseCode
  /-- Symbol code 11 (R57, R64). -/
  | symbolThree
  /-- A sequencer position other than 12 (R58). -/
  | seqIndexCode
  /-- `HOLDING` is 0 (R68). -/
  | noHold
deriving DecidableEq, Repr

/-- The decoder's answer. -/
inductive Decoded
  | ok (i : Instr)
  | rejected (e : DecodeError)
deriving DecidableEq, Repr

/-- The operation of an answer, if it has one. -/
def Decoded.toOption : Decoded → Option Instr
  | .ok i => some i
  | .rejected _ => none

/-- R61: the operation a request's `OP` selects, with its operands. -/
def decodeRequest (r : Request) : Decoded :=
  match r.op.toNat with
  | 1 => .ok (.openReq r.caller r.len)
  | 2 => .ok (.closeReq r.caller r.len)
  | 3 => .ok (.readReq r.caller r.len)
  | 4 => if r.buf.length = r.len then .ok (.writeReq r.caller r.buf) else .rejected .bufferLength
  | 5 => .ok (.startupReq r.caller r.len)
  | 6 => .ok (.shutdownReq r.caller r.len)
  | _ => .rejected .reservedOp

/-- R57: the symbol operation of a 2-bit slot code. -/
def decodeSymbol (code : BitVec 2) : Decoded :=
  match code.toNat with
  | 0 => .ok .sym0
  | 1 => .ok .sym1
  | 2 => .ok .sym2
  | _ => .rejected .symbolThree

/-- The decoder (R68). -/
def decode : Encoding → Decoded
  | .request r => decodeRequest r
  | .phase code => if code = 0b01#2 then .ok .encode else .rejected .phaseCode
  | .symbol code => decodeSymbol code
  | .seqIndex code => if code = 0b1100#4 then .ok .term else .rejected .seqIndexCode
  | .timing code => if code = 1#1 then .ok .expire else .rejected .noHold

/-- One row of spec/opcode_table.json: its format, the width of its mask (every mask is all ones) and its match value. -/
structure TableRow where
  mnemonic : String
  format   : Format
  width    : Nat
  value    : Nat
deriving DecidableEq, Repr

/-- spec/opcode_table.json, in its order. -/
def opcodeTable : List TableRow :=
  [ ⟨"OPEN", .hostRequest, 3, 0b001⟩, ⟨"CLOSE", .hostRequest, 3, 0b010⟩,
    ⟨"READ", .hostRequest, 3, 0b011⟩, ⟨"WRITE", .hostRequest, 3, 0b100⟩,
    ⟨"STARTUP", .hostRequest, 3, 0b101⟩, ⟨"SHUTDOWN", .hostRequest, 3, 0b110⟩,
    ⟨"ENCODE", .phase, 2, 0b01⟩,
    ⟨"SYM0", .symbol, 2, 0b00⟩, ⟨"SYM1", .symbol, 2, 0b01⟩, ⟨"SYM2", .symbol, 2, 0b10⟩,
    ⟨"TERM", .seqIndex, 4, 0b1100⟩,
    ⟨"EXPIRE", .timing, 1, 0b1⟩ ]

/-- The encoding that a format and a code stand for, a request's operand fields all zero: caller 0, `LEN` 0, no bytes. -/
def Format.encoding (f : Format) (w : Nat) : Encoding :=
  match f with
  | .hostRequest => .request ⟨BitVec.ofNat 3 w, .host 0, 0, []⟩
  | .phase => .phase (BitVec.ofNat 2 w)
  | .symbol => .symbol (BitVec.ofNat 2 w)
  | .seqIndex => .seqIndex (BitVec.ofNat 4 w)
  | .timing => .timing (BitVec.ofNat 1 w)

/-- The row is read from a word of `nbits` bits whose value is `w`: the word is as wide as the row's mask, or it is a word
of whole bytes, whose bits above the mask are 0 (log 6). -/
def TableRow.reads (nbits w : Nat) (r : TableRow) : Bool :=
  r.value == w && (r.width == nbits || Nat.ble 8 nbits)

/-- The encoding of a table word: the first row of the table that reads it (log 6: rows of different formats share codes). -/
def tableEncoding (nbits w : Nat) : Option Encoding :=
  match opcodeTable.find? (TableRow.reads nbits w) with
  | some r => some (r.format.encoding w)
  | none => none

/-- The operation the decoder reads from a table word. -/
def decodeTableWord (nbits w : Nat) : Option Instr :=
  match tableEncoding nbits w with
  | some e => (decode e).toOption
  | none => none

/-- The encoder, from the same rows (R57, R58, R61). `BUF` is unused by every request but WRITE and is encoded empty. -/
def encode : Instr → Encoding
  | .openReq c len => .request ⟨0b001#3, c, len, []⟩
  | .closeReq c len => .request ⟨0b010#3, c, len, []⟩
  | .readReq c len => .request ⟨0b011#3, c, len, []⟩
  | .writeReq c buf => .request ⟨0b100#3, c, buf.length, buf⟩
  | .startupReq c len => .request ⟨0b101#3, c, len, []⟩
  | .shutdownReq c len => .request ⟨0b110#3, c, len, []⟩
  | .encode => .phase 0b01#2
  | .sym0 => .symbol 0b00#2
  | .sym1 => .symbol 0b01#2
  | .sym2 => .symbol 0b10#2
  | .term => .seqIndex 0b1100#4
  | .expire => .timing 1#1

/-- The same encoding with the fields no operation reads removed: `BUF` of every request but WRITE. -/
def Encoding.normal : Encoding → Encoding
  | .request r => .request (if r.op = 0b100#3 then r else { r with buf := [] })
  | .phase code => .phase code
  | .symbol code => .symbol code
  | .seqIndex code => .seqIndex code
  | .timing code => .timing code

end Sys2Proof
end

