-- ==== Sys2Proof/Config.lean ====
section
/-! DEFINITION. What one run of the block fixes (spec/00_scope.md R10, spec/92_eei_decisions.md PAR1 to PAR4) and the
free values its steps draw (R13). Every constant is opaque: nothing in Lean can evaluate it, so a statement holds for
every value (log 4, log 5). -/

namespace Sys2Proof

/-- `TOL_US`: half-width in microseconds of the tolerance window of a hold (R10, R13; PAR2). Any natural number. -/
opaque Config.tolUs : Nat

/-- `LINE_ID`: the number of the output line, read only by STARTUP's call to the line collaborator (R10; PAR1). -/
opaque Config.lineId : Int

/-- How many host callers there are beside caller 0. -/
opaque Config.otherCallers : Nat

/-- `N_CALLERS`, at least 1 (R10; PAR3). -/
def Config.nCallers : Nat := Config.otherCallers + 1

/-- `ACQUIRE_OK`: whether the line collaborator acquires the given line and sets it to output (R10, R95; PAR4). -/
opaque Config.acquireOk : Int → Bool

/-- The free value behind the `k`-th hold draw of a run. `Machine.holdDuration` folds it into the window of R13, so every
duration of the window, and no other, is the duration of some `holdDraw`. -/
opaque Config.holdDraw : Nat → Nat

end Sys2Proof
end

