-- ==== Sys2Proof/Machine/State.lean ====
section
/-! DEFINITION. The state of the block (spec/10_state.md R17), its reset value (spec/70_reset_and_hazards.md R125), and the
names of the stops. State is plain data. -/

namespace Sys2Proof.Machine

/-- `LIFE` (R18). -/
inductive Life
  | uninit
  | ready
  | failed
  | released
deriving DecidableEq, Repr

/-- R18: the 2-bit code of `LIFE`. -/
def Life.code : Life → BitVec 2
  | .uninit => 0b00#2
  | .ready => 0b01#2
  | .failed => 0b10#2
  | .released => 0b11#2

/-- `PHASE` (R20). Code 11 never occurs and has no constructor (log 8). -/
inductive Phase
  | idle
  | encode
  | send
deriving DecidableEq, Repr

/-- R20: the 2-bit code of `PHASE`. -/
def Phase.code : Phase → BitVec 2
  | .idle => 0b00#2
  | .encode => 0b01#2
  | .send => 0b10#2

/-- `LINE` (R30): `unknown` until the first `Set` after startup, then the level driven (R59: true is high). -/
inductive Line
  | unknown
  | level (high : Bool)
deriving DecidableEq, Repr

/-- A register that the spec gives no power-on value (R35): it holds a value throughout (log 2), and `written` says whether
a step has written it, which is the spec's "holds a value". -/
structure Reg (α : Type) where
  held    : α
  written : Bool
deriving DecidableEq, Repr

/-- The register after a step wrote `v`. -/
def Reg.wrote {α : Type} (v : α) : Reg α := ⟨v, true⟩

/-- The register at power-on: not written; it holds `v` (log 2). -/
def Reg.blank {α : Type} (v : α) : Reg α := ⟨v, false⟩

/-- `STATUS` of a response (spec/30_encoding.md R62). -/
inductive Status
  | ok
  | busy
  | invalidLength
  | lineFailure
deriving DecidableEq, Repr

/-- R62: the 2-bit code of `STATUS`. -/
def Status.code : Status → BitVec 2
  | .ok => 0b00#2
  | .busy => 0b01#2
  | .invalidLength => 0b10#2
  | .lineFailure => 0b11#2

/-- A response delivered to a caller (R62). -/
structure Response where
  caller : Caller
  status : Status
  value  : BitVec 32
deriving DecidableEq, Repr

/-- A line transition (R34): the level set, the nominal hold, and the actual hold, `none` while it is pending. -/
structure Transition where
  high    : Bool
  nominal : Nat
  actual  : Option Nat
deriving DecidableEq, Repr

/-- The fault codes of spec/60_exceptions.md R111. -/
inductive FaultCode
  /-- F_RESERVED_OP: a request with `OP` 000 or 111. -/
  | reservedOp
  /-- F_NOT_READY: a request other than STARTUP while `LIFE` is not READY. -/
  | notReady
  /-- F_LIFECYCLE: STARTUP while `LIFE` is not UNINIT; SHUTDOWN with a session open or a transmission in flight. -/
  | lifecycle
  /-- F_NOT_OPEN: CLOSE, READ or WRITE with no session open. -/
  | notOpen
  /-- F_CONCURRENT_WRITE: a 4-byte WRITE while a transmission is in flight. -/
  | concurrentWrite
  /-- F_SYMBOL3: EMIT with symbol 3. -/
  | symbolThree
  /-- F_UNWRITTEN: a read of a register that no step has written (R35). -/
  | unwritten
deriving DecidableEq, Repr

/-- The steps of the Transmitter, as a fault record names them (R111). -/
inductive TxStep
  | encode
  | emit
  | expire
deriving DecidableEq, Repr

/-- What a fault record names beside the code (R110, R111): the request (`OP`, `CALLER`, `LEN`) or the Transmitter step. -/
inductive Cause
  | request (op : BitVec 3) (caller : Caller) (len : Nat)
  | step (t : TxStep)
deriving DecidableEq, Repr

/-- The registers of R17 other than `FAULTS`. -/
structure Block where
  life      : Life
  lineOwned : Bool
  openCount : Reg Bool
  phase     : Reg Phase
  cmd       : Reg Word
  period    : Reg (BitVec 9)
  repLeft   : Reg (BitVec 8)
  acc       : Reg (BitVec 24)
  work      : Reg (BitVec 24)
  sym       : Reg (BitVec 2)
  symIdx    : Reg (BitVec 4)
  stepIdx   : Reg (BitVec 2)
  holding   : Reg Bool
  holdNom   : Reg (BitVec 14)
  writer    : Reg (Option Caller)
  line      : Line
  /-- The callers whose `AWAIT` bit is 1, strictly rising by `callerKey` (R32; log 15). -/
  await     : List Caller
  trace     : List Transition
  now       : Nat
deriving DecidableEq, Repr

/-- A fault record (R110): the code, the request or step, and the registers as the fault found them (log 10). -/
structure FaultRecord where
  code  : FaultCode
  cause : Cause
  block : Block
deriving DecidableEq, Repr

/-- One entry of the schedule (log 1): a caller is about to issue this request, or the Transmitter moves. -/
inductive Move
  | request (r : Request)
  | transmit
deriving DecidableEq, Repr

/-- The state: the registers of R17, `FAULTS`, the responses delivered so far (R9, D38), and the model's own two fields: the
interleaving still to come (log 1) and the number of hold draws taken (log 4). -/
structure State extends Block where
  faults    : List FaultRecord
  responses : List Response
  schedule  : List Move
  draws     : Nat
deriving DecidableEq, Repr

/-- Why the machine stops. -/
inductive Fault
  /-- Raised by `step` and by every operation in a state whose `FAULTS` is not empty: no agent has a further step (R110).
  Safe: the spec gives such a state no step. -/
  | quiescent
  /-- Raised by an operation executed where the spec does not enable it (R32: the caller is blocked; R77, R88, R89: `PHASE`,
  `HOLDING` or the position select another operation). `step` never executes one there (log 11). Safe: no effect is given. -/
  | notEnabled
  /-- Raised by SYM0, SYM1, SYM2 and TERM while `LINE_OWNED` is 0, which "cannot occur" (R31; log 9). Safe. -/
  | lineNotOwned
  /-- Raised by TERM with `STEP` 2 or 3, which have no transition (R23, R38, R84; log 11). Safe: the spec gives none. -/
  | noTransition
  /-- Raised by `step` for a sequencer position that never occurs: `SYMIDX` 13 to 15 (R58; log 12). Safe: the spec gives none. -/
  | positionUnused
deriving DecidableEq, Repr

/-- What the machine refuses. -/
inductive Refusal
  /-- Raised by `exec`'s arm of an operation without a meaning. Safe: the machine stops. No arm raises it. -/
  | notModelled (mnemonic : String)
  /-- Raised by `step` for a request of a caller that does not exist (R60; log 13). Safe: no agent issues it. -/
  | noSuchCaller
  /-- Raised by `step` for a WRITE whose buffer does not hold `LEN` bytes: no request of R60 (log 13). Safe: no caller issues it. -/
  | bufferNotPresented
deriving DecidableEq, Repr

/-- What a step or an operation answers. -/
abbrev Result := Host.Outcome State Fault Refusal

/-- The registers at power-on (R17, R125). What a `blank` register holds is the model's choice (log 2). -/
def Block.powerOn : Block where
  life := .uninit
  lineOwned := false
  openCount := .blank false
  phase := .blank .idle
  cmd := .blank 0
  period := .blank 0
  repLeft := .blank 0
  acc := .blank 0
  work := .blank 0
  sym := .blank 0
  symIdx := .blank 0
  stepIdx := .blank 0
  holding := .blank false
  holdNom := .blank 0
  writer := .blank none
  line := .unknown
  await := []
  trace := []
  now := 0

/-- The machine at power-on (R125): nothing scheduled, nothing answered, nothing drawn. -/
def State.reset : State where
  toBlock := Block.powerOn
  faults := []
  responses := []
  schedule := []
  draws := 0

end Sys2Proof.Machine
end

