-- ==== Sys2Proof/Machine/Flags.lean ====
section
/-! DEFINITION. The block has no condition codes and no operation writes a flag; its status flags are `LIFE`, `OPEN_COUNT`
and `PHASE` (spec/10_state.md R27). These are their readings. -/

namespace Sys2Proof.Machine

/-- `LIFE = READY` (R18). -/
def State.isReady (s : State) : Bool := s.life == .ready

/-- A session is open: `OPEN_COUNT = 1` (R19). -/
def State.sessionOpen (s : State) : Bool := s.openCount.held

/-- A transmission is in flight: `PHASE` is not IDLE (R20). -/
def State.inFlight (s : State) : Bool := s.phase.held != .idle

/-- ENCODE is enabled (spec/40_encoder.md R77). -/
def State.encodePending (s : State) : Bool := s.phase == .wrote .encode

/-- The Transmitter sends, with or without a hold running (spec/41_pulse.md R88, R89). -/
def State.sendingWith (s : State) (hold : Bool) : Bool :=
  s.phase == .wrote .send && s.holding == .wrote hold

/-- A fault is recorded: the state is quiescent (spec/60_exceptions.md R110). -/
def State.faulted (s : State) : Bool := !s.faults.isEmpty

/-- `AWAIT[c]` (R32). -/
def State.awaits (s : State) (c : Caller) : Bool := decide (c ∈ s.await)

end Sys2Proof.Machine
end

