-- ==== Sys2Proof/Machine/Operands.lean ====
section
/-! DEFINITION. The pure functions the operations compute: assembly of the command word, its fields, the base-3 to base-4
packing and its slots, the pulse tables, and the hold window. -/

namespace Sys2Proof.Machine

/-- spec/20_memory.md R40: `{BufByte(3), BufByte(2), BufByte(1), BufByte(0)}`. -/
def commandWord (b0 b1 b2 b3 : Byte) : Word := b3 ++ b2 ++ b1 ++ b0

/-- spec/40_encoder.md R70: `cmd[31:23]`. -/
def period (cmd : Word) : BitVec 9 := (cmd >>> 23).setWidth 9

/-- spec/30_encoding.md R53: `REXP = cmd[22:20]`. -/
def repExp (cmd : Word) : BitVec 3 := (cmd >>> 20).setWidth 3

/-- spec/40_encoder.md R71: `1 << ((cmd >> 20) & 7)`. -/
def repeats (cmd : Word) : BitVec 8 := 1#8 <<< (repExp cmd).toNat

/-- spec/40_encoder.md R72: `cmd[19:0]`. -/
def payload (cmd : Word) : BitVec 20 := cmd.setWidth 20

/-- spec/30_encoding.md R67: `(T << 23) | (r << 20) | p`. -/
def commandOf (t : BitVec 9) (r : BitVec 3) (p : BitVec 20) : Word := t ++ r ++ p

/-- spec/40_encoder.md R73: `n` further iterations of the packing loop, from quotient `q` and accumulator `acc`. -/
def packTrits : Nat → Nat → Nat → Nat
  | 0, _, acc => acc
  | n + 1, q, acc => packTrits n (q / 3) (acc <<< 2 ||| q % 3)

/-- spec/40_encoder.md R73: `encode12`, twelve iterations, narrowed to the 24 bits of `ACC`. -/
def encode12 (p : BitVec 20) : BitVec 24 := BitVec.ofNat 24 (packTrits 12 p.toNat 0)

/-- spec/10_state.md R24: slot `j` of a packed word, its bits `2j+1:2j`. -/
def slot (acc : BitVec 24) (j : Nat) : BitVec 2 := (acc >>> (2 * j)).setWidth 2

/-- The sum of spec/40_encoder.md R78 over the lowest `n` slots. -/
def unpackTrits (acc : BitVec 24) : Nat → Nat
  | 0 => 0
  | n + 1 => unpackTrits acc n + (slot acc n).toNat * 3 ^ (11 - n)

/-- spec/40_encoder.md R78: the test function `decode12`; no step runs it. -/
def decode12 (acc : BitVec 24) : Nat := unpackTrits acc 12

/-- spec/41_pulse.md R81: SYM0's transitions, level and multiple of T. -/
def pulse0 : List (Bool × Nat) := [(true, 1), (false, 3), (true, 1), (false, 3)]

/-- spec/41_pulse.md R82. -/
def pulse1 : List (Bool × Nat) := [(true, 3), (false, 1), (true, 3), (false, 1)]

/-- spec/41_pulse.md R83. -/
def pulse2 : List (Bool × Nat) := [(true, 1), (false, 3), (true, 3), (false, 1)]

/-- spec/41_pulse.md R84: the termination gap. -/
def pulseTerm : List (Bool × Nat) := [(true, 1), (false, 31)]

/-- spec/41_pulse.md R80: the nominal hold of a transition with multiple `m`. -/
def nominalHold (m : Nat) (t : BitVec 9) : Nat := m * t.toNat

/-- spec/00_scope.md R13: the actual duration of the `k`-th hold, a free value within
`max(0, n - TOL_US) .. n + TOL_US` (natural subtraction is the `max`). -/
def holdDuration (nominal k : Nat) : Nat :=
  (nominal - Config.tolUs) +
    Config.holdDraw k % (nominal + Config.tolUs - (nominal - Config.tolUs) + 1)

end Sys2Proof.Machine
end

