-- ==== Sys2Proof/Machine/Ops.lean ====
section
/-! DEFINITION. The named operations over the state: taking a request, responding, raising a fault, the register updates of
each step, and the shared checks. Every update of State by a meaning goes through one of these. -/

namespace Sys2Proof.Machine

/-! ## AWAIT (spec/10_state.md R32) -/

/-- The order in which `AWAIT` lists callers: LC, then the hosts by id. -/
def callerKey : Caller → Nat
  | .lc => 0
  | .host id => id + 1

/-- Set one `AWAIT` bit, keeping the list strictly rising. -/
def awaitInsert (c : Caller) : List Caller → List Caller
  | [] => [c]
  | d :: ds =>
    if callerKey c < callerKey d then c :: d :: ds
    else if c = d then d :: ds
    else d :: awaitInsert c ds

/-- Clear one `AWAIT` bit. -/
def awaitErase (c : Caller) (l : List Caller) : List Caller := l.filter (fun d => d != c)

/-- The canonical form of `AWAIT`: strictly rising, so without repeats. -/
abbrev AwaitWf (l : List Caller) : Prop := l.Pairwise (fun a b => callerKey a < callerKey b)

/-- spec/42_session.md R93: caller `c` issues its request. -/
def State.issue (s : State) (c : Caller) : State :=
  { s with await := awaitInsert c s.await }

/-- spec/00_scope.md R12, `respond(c, status, value)`: deliver the response and clear `AWAIT[c]`. -/
def State.respond (s : State) (c : Caller) (status : Status) (value : BitVec 32) : State :=
  { s with
    await := awaitErase c s.await
    responses := s.responses ++ [⟨c, status, value⟩] }

/-! ## Faults (spec/60_exceptions.md R110) -/

/-- `raise Fault(code)`: add the record, change nothing else. -/
def State.raiseFault (s : State) (code : FaultCode) (cause : Cause) : State :=
  { s with faults := s.faults ++ [⟨code, cause, s.toBlock⟩] }

/-! ## Session Manager updates -/

/-- OPEN and CLOSE set the open-count (R99, R100). -/
def State.setOpenCount (s : State) (v : Bool) : State :=
  { s with openCount := .wrote v }

/-- R95: the line is acquired and the block becomes READY. -/
def State.becomeReady (s : State) : State :=
  { s with
    lineOwned := true
    openCount := .wrote false
    phase := .wrote .idle
    holding := .wrote false
    writer := .wrote none
    life := .ready }

/-- R95: the line could not be acquired. -/
def State.becomeFailed (s : State) : State :=
  { s with life := .failed }

/-- R96: the line is released. -/
def State.releaseLine (s : State) : State :=
  { s with
    life := .released
    lineOwned := false }

/-- R102: the command word is latched for the Transmitter. -/
def State.latch (s : State) (c : Caller) (w : Word) : State :=
  { s with
    cmd := .wrote w
    writer := .wrote (some c)
    phase := .wrote .encode }

/-! ## Transmitter updates -/

/-- spec/40_encoder.md R77. -/
def State.loadTelegram (s : State) (w : Word) : State :=
  { s with
    period := .wrote (period w)
    repLeft := .wrote (repeats w)
    acc := .wrote (encode12 (payload w))
    work := .wrote (encode12 (payload w))
    symIdx := .wrote 0
    stepIdx := .wrote 0
    holding := .wrote false
    phase := .wrote .send }

/-- spec/41_pulse.md R88: `SYM <- WORK[1:0]; WORK <- WORK >> 2`. -/
def State.takeSlot (s : State) : State :=
  { s with
    sym := .wrote (slot s.work.held 0)
    work := .wrote (s.work.held >>> 2) }

/-- R88: `Set(lvl)` and the start of the hold of `m` periods. -/
def State.drive (s : State) (high : Bool) (m : Nat) : State :=
  { s with
    line := .level high
    trace := s.trace ++ [⟨high, nominalHold m s.period.held, none⟩]
    holdNom := .wrote (BitVec.ofNat 14 (nominalHold m s.period.held))
    holding := .wrote true }

/-- `TRACE[last].actual <- d` (R89). An empty TRACE has no last entry and stays empty, the model's choice (log 21). -/
def setLastActual (d : Nat) : List Transition → List Transition
  | [] => []
  | [x] => [{ x with actual := some d }]
  | x :: y :: rest => x :: setLastActual d (y :: rest)

/-- R89: the hold ends after `d` microseconds. -/
def State.elapse (s : State) (d : Nat) : State :=
  { s with
    now := s.now + d
    trace := setLastActual d s.trace
    holding := .wrote false
    draws := s.draws + 1 }

/-- R90: the sequencer position. -/
def State.setPosition (s : State) (idx : BitVec 4) (k : BitVec 2) : State :=
  { s with
    symIdx := .wrote idx
    stepIdx := .wrote k }

/-- R90: one frame fewer to send. From 0, which R22 rules out, the 8 bits wrap to 255, the model's choice (log 22). -/
def State.countFrame (s : State) : State :=
  { s with repLeft := .wrote (s.repLeft.held - 1) }

/-- R90: the next frame sends the same symbols. -/
def State.reloadWork (s : State) : State :=
  { s with work := .wrote s.acc.held }

/-- R90: the Transmitter returns to IDLE. -/
def State.goIdle (s : State) : State :=
  { s with
    phase := .wrote .idle
    writer := .wrote none }

/-- The head of the schedule is taken (log 1). -/
def State.dropMove (s : State) : State :=
  { s with schedule := s.schedule.tail }

/-! ## Shared checks -/

/-- A step that reads registers whose written marks are `marks` (R35): F_UNWRITTEN if one holds no value. -/
def readsAll (marks : List Bool) (cause : Cause) (s : State) (k : Result) : Result :=
  if marks.all (fun m => m) then k else .next (s.raiseFault .unwritten cause)

/-- spec/42_session.md R93: a request is taken in the step in which its caller issues it. A faulted block takes none (R110),
and a blocked caller has none (R32). -/
def atPort (c : Caller) (s : State) (k : State → Result) : Result :=
  if s.faulted then .fault .quiescent
  else if s.awaits c then .fault .notEnabled
  else k (s.issue c)

/-- R94 check 2 of every request but STARTUP. -/
def whenReady (cause : Cause) (s : State) (k : Result) : Result :=
  if s.isReady then k else .next (s.raiseFault .notReady cause)

/-- R94 check 3 of CLOSE, READ and WRITE. -/
def whenOpen (cause : Cause) (s : State) (k : Result) : Result :=
  readsAll [s.openCount.written] cause s
    (if s.sessionOpen then k else .next (s.raiseFault .notOpen cause))

/-- R88: EMIT is enabled, on a line the block owns (R31, log 9), and reads its position. -/
def whenEmitting (s : State) (k : Result) : Result :=
  if s.faulted then .fault .quiescent
  else if s.sendingWith false then
    if s.lineOwned then readsAll [s.symIdx.written, s.stepIdx.written] (.step .emit) s k
    else .fault .lineNotOwned
  else .fault .notEnabled

/-- R89: EXPIRE is enabled. -/
def whenHolding (s : State) (k : Result) : Result :=
  if s.faulted then .fault .quiescent
  else if s.sendingWith true then k
  else .fault .notEnabled

end Sys2Proof.Machine
end

