-- ==== Sys2Proof/Machine/Encoder.lean ====
section
/-! DEFINITION. The encode step of the Transmitter (spec/40_encoder.md R77). -/

namespace Sys2Proof.Machine

/-- R77. -/
def execEncode (s : State) : Result :=
  if s.faulted then .fault .quiescent
  else if s.encodePending then
    readsAll [s.cmd.written] (.step .encode) s (.next (s.loadTelegram s.cmd.held))
  else .fault .notEnabled

end Sys2Proof.Machine
end

