-- ==== Sys2Proof/Machine/Lifecycle.lean ====
section
/-! DEFINITION. The lifecycle operations STARTUP and SHUTDOWN (spec/42_session.md R95, R96). -/

namespace Sys2Proof.Machine

/-- R95: the state after STARTUP, by the answer of the line collaborator. `LINE` stays as it was (log 19). -/
def startupState (acquired : Bool) (c : Caller) (s : State) : State :=
  if acquired then s.becomeReady.respond c .ok 0
  else s.becomeFailed.respond c .lineFailure 0

/-- R95, after its check of R94. -/
def execStartupReq (c : Caller) (len : Nat) (s : State) : Result :=
  atPort c s fun t =>
    if t.life = .uninit then .next (startupState (Config.acquireOk Config.lineId) c t)
    else .next (t.raiseFault .lifecycle (.request 0b101#3 c len))

/-- R96. -/
def execShutdownReq (c : Caller) (len : Nat) (s : State) : Result :=
  atPort c s fun t =>
    whenReady (.request 0b110#3 c len) t <|
      readsAll [t.openCount.written, t.phase.written] (.request 0b110#3 c len) t <|
        if t.sessionOpen || t.inFlight then
          .next (t.raiseFault .lifecycle (.request 0b110#3 c len))
        else .next (t.releaseLine.respond c .ok 0)

end Sys2Proof.Machine
end

