-- ==== Sys2Proof/Machine/Pulse.lean ====
section
/-! DEFINITION. EMIT, one line transition of a symbol or of the termination gap (spec/41_pulse.md R81 to R85, R88). -/

namespace Sys2Proof.Machine

/-- The symbol this EMIT sends: `WORK[1:0]` at `STEP` 0, else `SYM` (R88). -/
def slotCode (s : State) : BitVec 2 :=
  if s.stepIdx.held = 0 then slot s.work.held 0 else s.sym.held

/-- Whether the register that `slotCode` reads holds a value (R35). -/
def slotWritten (s : State) : Bool :=
  if s.stepIdx.held = 0 then s.work.written else s.sym.written

/-- R88: at `STEP` 0 the slot is taken into `SYM` and shifted out of `WORK`. -/
def takeSymbol (s : State) : State :=
  if s.stepIdx.held = 0 then s.takeSlot else s

/-- R88: `Set` the level of the transition that `STEP` selects in `pulses` and start its hold. -/
def emitTransition (pulses : List (Bool × Nat)) (s : State) : Result :=
  match pulses[s.stepIdx.held.toNat]? with
  | some (high, m) => .next (s.drive high m)
  | none => .fault .noTransition

/-- R88 for the symbol `code`, enabled where the opcode table selects it: `SYMIDX < 12` and the slot's code is `code`. -/
def emitSymbol (code : BitVec 2) (pulses : List (Bool × Nat)) (s : State) : Result :=
  whenEmitting s <|
    readsAll [slotWritten s, s.period.written] (.step .emit) s <|
      if s.symIdx.held < 12 ∧ slotCode s = code then emitTransition pulses (takeSymbol s)
      else .fault .notEnabled

/-- SYM0, R81. -/
def execSymZero (s : State) : Result := emitSymbol 0b00#2 pulse0 s

/-- SYM1, R82. -/
def execSymOne (s : State) : Result := emitSymbol 0b01#2 pulse1 s

/-- SYM2, R83. -/
def execSymTwo (s : State) : Result := emitSymbol 0b10#2 pulse2 s

/-- TERM, R84: enabled at `SYMIDX` 12. -/
def execTerm (s : State) : Result :=
  whenEmitting s <|
    readsAll [s.period.written] (.step .emit) s <|
      if s.symIdx.held = 12 then emitTransition pulseTerm s
      else .fault .notEnabled

end Sys2Proof.Machine
end

