-- ==== Sys2Proof/Machine/Session.lean ====
section
/-! DEFINITION. The write-gate and single-open enforcer: OPEN, CLOSE, READ, WRITE (spec/42_session.md R97 to R104). -/

namespace Sys2Proof.Machine

/-- R99, after the checks of R94. The test and the set of the open-count are this one step (R98). -/
def execOpenReq (c : Caller) (len : Nat) (s : State) : Result :=
  atPort c s fun t =>
    whenReady (.request 0b001#3 c len) t <|
      readsAll [t.openCount.written] (.request 0b001#3 c len) t <|
        if t.sessionOpen then .next (t.respond c .busy 0)
        else .next ((t.setOpenCount true).respond c .ok 0)

/-- R100. -/
def execCloseReq (c : Caller) (len : Nat) (s : State) : Result :=
  atPort c s fun t =>
    whenReady (.request 0b010#3 c len) t <|
      whenOpen (.request 0b010#3 c len) t <|
        .next ((t.setOpenCount false).respond c .ok 0)

/-- R101: zero bytes, whatever `LEN` is. -/
def execReadReq (c : Caller) (len : Nat) (s : State) : Result :=
  atPort c s fun t =>
    whenReady (.request 0b011#3 c len) t <|
      whenOpen (.request 0b011#3 c len) t <|
        .next (t.respond c .ok 0)

/-- R102, R103, after the checks of R94: exactly 4 bytes are taken, and only while no transmission is in flight. The caller
stays blocked: its response comes with the end of the transmission (spec/41_pulse.md R90). -/
def takeWrite (c : Caller) (buf : List Byte) (s : State) : Result :=
  match buf with
  | [b0, b1, b2, b3] =>
    readsAll [s.phase.written] (.request 0b100#3 c 4) s <|
      if s.inFlight then .next (s.raiseFault .concurrentWrite (.request 0b100#3 c 4))
      else .next (s.latch c (commandWord b0 b1 b2 b3))
  | _ => .next (s.respond c .invalidLength 0)

/-- R102. -/
def execWriteReq (c : Caller) (buf : List Byte) (s : State) : Result :=
  atPort c s fun t =>
    whenReady (.request 0b100#3 c buf.length) t <|
      whenOpen (.request 0b100#3 c buf.length) t <|
        takeWrite c buf t

end Sys2Proof.Machine
end

