-- ==== Sys2Proof/Machine/Timing.lean ====
section
/-! DEFINITION. EXPIRE, the end of a hold, with ADVANCE (spec/41_pulse.md R89, R90). -/

namespace Sys2Proof.Machine

/-- This EXPIRE ends a frame: the second transition of the termination gap (R90). -/
def endsFrame (s : State) : Bool := decide (¬ s.symIdx.held < 12 ∧ s.stepIdx.held ≠ 0)

/-- This EXPIRE ends the transmission: the last frame ends (R90). -/
def endsTransmission (s : State) : Bool := endsFrame s && s.repLeft.held - 1 == 0

/-- R90: the writer's response `(OK, 4)` and the return to IDLE; with no writer there is nobody to answer (log 17). -/
def finishTransmission (s : State) : State :=
  match s.writer.held with
  | some c => (s.respond c .ok 4).goIdle
  | none => s.goIdle

/-- R90, end of a frame. -/
def endFrame (s : State) : State :=
  if s.repLeft.held - 1 = 0 then finishTransmission (s.setPosition 0 0).countFrame
  else (s.setPosition 0 0).countFrame.reloadWork

/-- ADVANCE, R90. -/
def advance (s : State) : State :=
  if s.symIdx.held < 12 then
    if s.stepIdx.held = 3 then s.setPosition (s.symIdx.held + 1) 0
    else s.setPosition s.symIdx.held (s.stepIdx.held + 1)
  else if s.stepIdx.held = 0 then s.setPosition s.symIdx.held 1
  else endFrame s

/-- The marks of the registers this EXPIRE reads (R35; log 18). -/
def expireReads (s : State) : List Bool :=
  [ s.holdNom.written, s.symIdx.written, s.stepIdx.written,
    !endsFrame s || s.repLeft.written,
    !(endsFrame s && !endsTransmission s) || s.acc.written,
    !endsTransmission s || s.writer.written ]

/-- EXPIRE, R89: the drawn hold elapses, then ADVANCE. -/
def execExpire (s : State) : Result :=
  whenHolding s <|
    readsAll (expireReads s) (.step .expire) s <|
      .next (advance (s.elapse (holdDuration s.holdNom.held.toNat s.draws)))

end Sys2Proof.Machine
end

