-- ==== Sys2Proof/Machine/Dispatch.lean ====
section
/-! DEFINITION. One arm per operation of spec/opcode_table.json. -/

namespace Sys2Proof.Machine

def exec (i : Instr) (s : State) : Host.Outcome State Fault Refusal :=
  match i with
  | .openReq c len => Sys2Proof.Machine.execOpenReq c len s
  | .closeReq c len => Sys2Proof.Machine.execCloseReq c len s
  | .readReq c len => Sys2Proof.Machine.execReadReq c len s
  | .writeReq c buf => Sys2Proof.Machine.execWriteReq c buf s
  | .startupReq c len => Sys2Proof.Machine.execStartupReq c len s
  | .shutdownReq c len => Sys2Proof.Machine.execShutdownReq c len s
  | .encode => Sys2Proof.Machine.execEncode s
  | .sym0 => Sys2Proof.Machine.execSymZero s
  | .sym1 => Sys2Proof.Machine.execSymOne s
  | .sym2 => Sys2Proof.Machine.execSymTwo s
  | .term => Sys2Proof.Machine.execTerm s
  | .expire => Sys2Proof.Machine.execExpire s

end Sys2Proof.Machine
end

