-- ==== Sys2Proof/Machine/Fetch.lean ====
section
/-! DEFINITION. Which operation is next: the schedule says which agent moves (log 1), the Transmitter's position selects its
operation (spec/30_encoding.md R58, R68), and the decoder reads it. Also what `step` does with an encoding the decoder
rejects, and how an operation is placed where `step` finds it (log 7). -/

namespace Sys2Proof.Machine

/-- What the Transmitter's registers select. -/
inductive TxSelect
  /-- No Transmitter step is enabled. -/
  | disabled
  /-- The selection reads a register that no step has written (R35). -/
  | noValue
  | code (e : Encoding)
deriving DecidableEq, Repr

/-- R58, R68: ENCODE by `PHASE`; EXPIRE by `HOLDING`; a symbol by its slot's code; TERM by `SYMIDX`. A `PHASE` without a
value enables nothing (log 18). -/
def txSelect (s : State) : TxSelect :=
  if s.phase = .wrote .encode then .code (.phase Phase.encode.code)
  else if s.phase = .wrote .send then
    if s.holding.written then
      if s.holding.held then .code (.timing 1#1)
      else if s.symIdx.written && s.stepIdx.written then
        if s.symIdx.held < 12 then
          if slotWritten s then .code (.symbol (slotCode s)) else .noValue
        else .code (.seqIndex s.symIdx.held)
      else .noValue
    else .noValue
  else .disabled

/-- What `step` does next; `t` is the state with the schedule's head taken where the move uses it. -/
inductive Fetched
  /-- A fault is recorded (R110). -/
  | quiescent
  /-- No agent has a move: the block waits (R124). -/
  | wait
  /-- The schedule names the Transmitter, which has no step. -/
  | pass (t : State)
  /-- The Transmitter's selection reads a register without a value. -/
  | noValue (t : State)
  /-- This encoding is executed in `t`. -/
  | code (e : Encoding) (t : State)
deriving DecidableEq, Repr

/-- The Transmitter moves without using a scheduled move. -/
def fetchTransmit (s : State) : Fetched :=
  match txSelect s with
  | .disabled => .wait
  | .noValue => .noValue s
  | .code e => .code e s

/-- The next move. A request whose caller is blocked waits at the head of the schedule while the Transmitter moves (R32). -/
def fetch (s : State) : Fetched :=
  if s.faulted then .quiescent
  else
    match s.schedule with
    | [] => fetchTransmit s
    | .request r :: _ =>
      if s.awaits r.caller then fetchTransmit s else .code (.request r) s.dropMove
    | .transmit :: _ =>
      match txSelect s with
      | .disabled => .pass s.dropMove
      | .noValue => .noValue s.dropMove
      | .code e => .code e s.dropMove

/-- What happens at an encoding the decoder rejects: F_RESERVED_OP (R94 check 1) and F_SYMBOL3 (R85, R88) are recorded; the
others are no request of R60 or a position that never occurs (R58). -/
def execRejected (err : DecodeError) (e : Encoding) (s : State) : Result :=
  match err, e with
  | .reservedOp, .request r =>
    atPort r.caller s fun t => .next (t.raiseFault .reservedOp (.request r.op r.caller r.len))
  | .bufferLength, _ => .refused .bufferNotPresented
  | .symbolThree, _ => whenEmitting s (.next (s.raiseFault .symbolThree (.step .emit)))
  | _, _ => .fault .positionUnused

/-- Decode and execute. -/
def runCode (e : Encoding) (s : State) : Result :=
  if e.callerExists Config.nCallers then
    match decode e with
    | .ok i => exec i s
    | .rejected err => execRejected err e s
  else .refused .noSuchCaller

/-- One move of the block. -/
def runFetched (f : Fetched) (s : State) : Result :=
  match f with
  | .quiescent => .fault .quiescent
  | .wait => .next s
  | .pass t => .next t
  | .noValue t => .next (t.raiseFault .unwritten (.step .emit))
  | .code e t => runCode e t

/-- The register with its `written` mark set and its value kept. -/
def markWritten {α : Type} (r : Reg α) : Reg α := .wrote r.held

/-- The state in which the Transmitter is about to move, its fault-free line owned, in phase `p` at position `idx`, `STEP` 0. -/
def placeTransmit (s : State) (p : Phase) (hold : Bool) (idx : BitVec 4) : State :=
  { s with
    faults := []
    schedule := .transmit :: s.schedule
    lineOwned := true
    phase := .wrote p
    holding := .wrote hold
    symIdx := .wrote idx
    stepIdx := .wrote 0 }

/-- The state whose next move executes `e` (log 7). A request is scheduled next, its caller free to issue it. A Transmitter
operation has its selecting registers set, its other operand registers kept and marked written. -/
def placeEncoding (s : State) (e : Encoding) : State :=
  match e with
  | .request r =>
    { s with
      faults := []
      schedule := .request r :: s.schedule
      await := awaitErase r.caller s.await }
  | .phase _ =>
    { s with
      faults := []
      schedule := .transmit :: s.schedule
      phase := .wrote .encode
      cmd := markWritten s.cmd }
  | .symbol code =>
    { placeTransmit s .send false 0 with
      work := .wrote (code.setWidth 24)
      period := markWritten s.period }
  | .seqIndex code =>
    { placeTransmit s .send false code with period := markWritten s.period }
  | .timing _ =>
    { placeTransmit s .send true 0 with holdNom := markWritten s.holdNom }

/-- A request no operation has, for words the table does not hold. -/
def reservedRequest : Request := ⟨0b111#3, .host 0, 0, []⟩

end Sys2Proof.Machine
end

