-- ==== Sys2Proof/Machine/Step.lean ====
section
/-! DEFINITION. One move of the block, and the placing of a table word where the next move executes it. -/

namespace Sys2Proof.Machine

/-- One atomic step of the agent whose turn it is (spec/10_state.md R15, spec/20_memory.md R47). -/
def step (s : State) : Host.Outcome State Fault Refusal := runFetched (fetch s) s

/-- `s` with the operation of a table word placed next (log 7); a word of no row is a request with a reserved `OP`. -/
def State.withFetchWord (s : State) (nbits w : Nat) : State :=
  match tableEncoding nbits w with
  | some e => placeEncoding s e
  | none => placeEncoding s (.request reservedRequest)

end Sys2Proof.Machine
end

