-- ==== Sys2Proof/Safety.lean ====
section
/-! DEFINITION. The terms in which claims speak: when a request or a Transmitter operation may be taken, the invariants of
the block (spec/10_state.md R38), and the telegram a command word stands for (spec/41_pulse.md R86, R87). -/

namespace Sys2Proof.Machine

/-! ## When an operation is enabled -/

/-- No fault is recorded and caller `c` is not blocked: it may issue a request (R93, R110). -/
def CanIssue (s : State) (c : Caller) : Prop := s.faults = [] ∧ c ∉ s.await

/-- EMIT is enabled on an owned line, and every register it reads at a symbol holds a value (R88). -/
structure EmitsSymbol (s : State) (code : BitVec 2) : Prop where
  noFault : s.faults = []
  owned   : s.lineOwned = true
  sending : s.phase = .wrote .send
  noHold  : s.holding = .wrote false
  posRead : s.symIdx.written = true ∧ s.stepIdx.written = true ∧ s.period.written = true
  inSlots : s.symIdx.held < 12
  slotIs  : slotWritten s = true ∧ slotCode s = code

/-- EMIT is enabled on an owned line at the termination gap (R84, R88). -/
structure EmitsTerm (s : State) : Prop where
  noFault : s.faults = []
  owned   : s.lineOwned = true
  sending : s.phase = .wrote .send
  noHold  : s.holding = .wrote false
  posRead : s.symIdx = .wrote 12 ∧ s.stepIdx.written = true ∧ s.period.written = true
  inGap   : s.stepIdx.held < 2

/-- EXPIRE is enabled, and the registers it reads before the end of a frame hold values (R89). -/
structure HoldEnds (s : State) : Prop where
  noFault : s.faults = []
  sending : s.phase = .wrote .send
  hold    : s.holding = .wrote true
  posRead : s.holdNom.written = true ∧ s.symIdx.written = true ∧ s.stepIdx.written = true

/-- The hold window of R13: `d` is an actual duration of a hold of nominal `n`. -/
def InWindow (n d : Nat) : Prop := n - Config.tolUs ≤ d ∧ d ≤ n + Config.tolUs

/-! ## The states that operations leave, field by field -/

/-- Caller `c` has its response, and is as free as before the request (R12, R32). -/
def answered (s : State) (c : Caller) (status : Status) (value : BitVec 32) : State :=
  { s with responses := s.responses ++ [⟨c, status, value⟩] }

/-- Caller `c`'s request raised a fault: the caller stays blocked and one record is added (R110). -/
def requestFault (s : State) (c : Caller) (code : FaultCode) (cause : Cause) : State :=
  { s with
    await := awaitInsert c s.await
    faults := s.faults ++ [⟨code, cause, { s.toBlock with await := awaitInsert c s.await }⟩] }

/-- A Transmitter step raised a fault (R110). -/
def stepFault (s : State) (code : FaultCode) (cause : Cause) : State :=
  { s with faults := s.faults ++ [⟨code, cause, s.toBlock⟩] }

/-- The line is set to `high` and a hold of `m` periods starts (R88). -/
def held (s : State) (high : Bool) (m : Nat) : State :=
  { s with
    line := .level high
    trace := s.trace ++ [⟨high, m * s.period.held.toNat, none⟩]
    holdNom := .wrote (BitVec.ofNat 14 (m * s.period.held.toNat))
    holding := .wrote true }

/-- The slot at the bottom of WORK is taken into SYM (R88). -/
def slotTaken (s : State) : State :=
  { s with
    sym := .wrote (s.work.held.setWidth 2)
    work := .wrote (s.work.held >>> 2) }

/-- The hold ended after `d` microseconds (R89). -/
def expired (s : State) (d : Nat) : State :=
  { s with
    now := s.now + d
    trace := setLastActual d s.trace
    holding := .wrote false
    draws := s.draws + 1 }

/-- The caller of a request; a Transmitter operation has none. -/
def requester : Instr → Option Caller
  | .openReq c _ => some c
  | .closeReq c _ => some c
  | .readReq c _ => some c
  | .writeReq c _ => some c
  | .startupReq c _ => some c
  | .shutdownReq c _ => some c
  | .encode => none
  | .sym0 => none
  | .sym1 => none
  | .sym2 => none
  | .term => none
  | .expire => none

/-- The operation is an EMIT: one of SYM0, SYM1, SYM2, TERM (R88). -/
def IsEmit (i : Instr) : Prop := i = .sym0 ∨ i = .sym1 ∨ i = .sym2 ∨ i = .term

/-- Nothing of the transmission, of the line or of the observation of the line differs between two states. -/
structure SameTransmission (s t : State) : Prop where
  phase   : t.phase = s.phase
  cmd     : t.cmd = s.cmd
  writer  : t.writer = s.writer
  fields  : t.period = s.period ∧ t.repLeft = s.repLeft ∧ t.acc = s.acc ∧ t.work = s.work ∧ t.sym = s.sym
  pos     : t.symIdx = s.symIdx ∧ t.stepIdx = s.stepIdx
  hold    : t.holding = s.holding ∧ t.holdNom = s.holdNom
  line    : t.line = s.line ∧ t.lineOwned = s.lineOwned ∧ t.life = s.life
  watched : t.trace = s.trace ∧ t.now = s.now ∧ t.draws = s.draws

/-! ## Invariants -/

/-- No slot of a packed word is 3 (R24, spec/40_encoder.md R76). -/
def SlotsLegal (a : BitVec 24) : Prop := ∀ j, j < 12 → slot a j ≠ 3

/-- What holds of the registers while frames are sent (R38, R35). -/
structure SendInv (s : State) : Prop where
  written : s.period.written = true ∧ s.repLeft.written = true ∧ s.acc.written = true ∧ s.work.written = true ∧
    s.symIdx.written = true ∧ s.stepIdx.written = true
  frames  : 1 ≤ s.repLeft.held.toNat ∧ s.repLeft.held.toNat ≤ 128
  symRead : s.symIdx.held < 12 → (s.stepIdx.held ≠ 0 ∨ s.holding = .wrote true) → s.sym.written = true

/-- The state invariants of R38, with what they need to be kept by every step. They also hold after a fault. -/
structure Inv (s : State) : Prop where
  awaitWf     : AwaitWf s.await
  owned       : s.lineOwned = true ↔ s.life = .ready
  notReady    : s.life ≠ .ready → s.phase.written = false ∨ s.phase = .wrote .idle
  ready       : s.life = .ready → s.openCount.written = true ∧ s.phase.written = true ∧
    s.holding.written = true ∧ s.writer.written = true
  idle        : s.phase = .wrote .idle ↔ s.writer = .wrote none
  encoding    : s.phase = .wrote .encode → s.cmd.written = true
  sending     : s.phase = .wrote .send → SendInv s
  position    : s.symIdx.held ≤ 12 ∧ (s.symIdx.held = 12 → s.stepIdx.held ≤ 1)
  slots       : SlotsLegal s.acc.held ∧ SlotsLegal s.work.held ∧ s.sym.held ≠ 3
  hold        : s.holding = .wrote true → s.phase = .wrote .send ∧ s.holdNom.written = true
  holdBound   : s.holdNom.held.toNat ≤ 15841
  writerWaits : ∀ c, s.writer = .wrote (some c) →
    c ∈ s.await ∧ (s.phase = .wrote .encode ∨ s.phase = .wrote .send)
  onlyWriter  : s.faults = [] → ∀ c, c ∈ s.await → s.writer = .wrote (some c)
  oneFault    : s.faults.length ≤ 1

/-- A trace entry whose hold is over, with an actual duration inside its window (R13, R34). -/
def Elapsed (x : Transition) : Prop := ∃ d, x.actual = some d ∧ InWindow x.nominal d

/-- `NOW` and `TRACE` (R28, R34): `NOW` is the sum of the actual holds; the last transition is pending exactly while a hold
runs, with the nominal duration `HOLD_NOM`; every other hold lies in its window. -/
structure TraceInv (s : State) : Prop where
  sum     : s.now = (s.trace.map (fun x => x.actual.getD 0)).sum
  running : s.holding = .wrote true → ∃ done x, s.trace = done ++ [x] ∧ x.actual = none ∧
    x.nominal = s.holdNom.held.toNat ∧ ∀ y ∈ done, Elapsed y
  resting : s.holding ≠ .wrote true → ∀ y ∈ s.trace, Elapsed y

/-! ## The telegram of a command word -/

/-- Trit `k` of a payload, counting from the least significant (spec/40_encoder.md R74). -/
def trit (p : BitVec 20) (k : Nat) : Nat := p.toNat / 3 ^ k % 3

/-- The transitions of a symbol, level and multiple of T, as the table of R80 gives them. -/
def symbolPulses : Nat → List (Bool × Nat)
  | 0 => [(true, 1), (false, 3), (true, 1), (false, 3)]
  | 1 => [(true, 3), (false, 1), (true, 3), (false, 1)]
  | _ => [(true, 1), (false, 3), (true, 3), (false, 1)]

/-- R86: the symbols of the 12 trits, most significant first (spec/90_conflicts.md C1), then the termination gap. -/
def frameSpec (w : Word) : List (Bool × Nat) :=
  (List.range 12).flatMap (fun j => symbolPulses (trit (payload w) (11 - j))) ++ [(true, 1), (false, 31)]

/-- R87: `2^r` frames, all alike. -/
def telegramSpec (w : Word) : List (Bool × Nat) :=
  (List.replicate (2 ^ (repExp w).toNat) (frameSpec w)).flatten

/-- R80: the level and nominal hold of a table transition at period T. -/
def timed (t : BitVec 9) (x : Bool × Nat) : Bool × Nat := (x.1, x.2 * t.toNat)

/-- `n` moves of the block, stopping at the first stop. -/
def moves : Nat → State → Result
  | 0, s => .next s
  | n + 1, s =>
    match step s with
    | .next t => moves n t
    | .fault r => .fault r
    | .refused r => .refused r

/-- The Transmitter is about to encode command word `w` for caller `c`, on an owned line, with nothing scheduled. -/
structure AboutToSend (s : State) (w : Word) (c : Caller) : Prop where
  noFault  : s.faults = []
  alone    : s.schedule = []
  owned    : s.lineOwned = true
  encoding : s.phase = .wrote .encode
  command  : s.cmd = .wrote w
  writer   : s.writer = .wrote (some c)

end Sys2Proof.Machine
end

