-- ==== Sys2Proof/Certificates/Slice0/Obligations.lean ====
section
/-! DEFINITION. The statements for the provers. Each docstring names the rule of spec/ it formalises. -/

open Sys2Proof Sys2Proof.Machine

/-! ## Encoding -/

/-- R57, R58, R61, R68: decoding the encoding of an operation gives it back, and what the decoder reads is the encoding it
was given, but for the unused `BUF` of a request other than WRITE. -/
def Obligations.DecodeEncodeAgree : Prop :=
  (∀ i : Instr, decode (encode i) = .ok i) ∧
  (∀ (e : Encoding) (i : Instr), decode e = .ok i → encode i = e.normal) ∧
  (∀ (e : Encoding) (i : Instr) (n : Nat), decode e = .ok i → i.wf n = e.callerExists n)

/-- R61, R57, R58, R20, R28: one word of each format, read from the spec's tables. -/
def Obligations.SampleCodesDecode : Prop :=
  decode (.request ⟨0b001#3, .host 1, 0, []⟩) = .ok (.openReq (.host 1) 0) ∧
  decode (.request ⟨0b011#3, .host 0, 16, []⟩) = .ok (.readReq (.host 0) 16) ∧
  decode (.request ⟨0b100#3, .host 0, 4, [0x0D#8, 0x00#8, 0x10#8, 0xAF#8]⟩) =
    .ok (.writeReq (.host 0) [0x0D#8, 0x00#8, 0x10#8, 0xAF#8]) ∧
  decode (.request ⟨0b110#3, .lc, 0, []⟩) = .ok (.shutdownReq .lc 0) ∧
  decode (.phase 0b01#2) = .ok .encode ∧
  decode (.symbol 0b10#2) = .ok .sym2 ∧
  decode (.seqIndex 0b1100#4) = .ok .term ∧
  decode (.timing 1#1) = .ok .expire

/-- R64: the reserved `OP` codes and symbol code 3, and no other code of theirs, are rejected under their names. -/
def Obligations.ReservedCodesRejected : Prop :=
  (∀ r : Request, decode (.request r) = .rejected .reservedOp ↔ r.op = 0b000#3 ∨ r.op = 0b111#3) ∧
  (∀ c : BitVec 2, decode (.symbol c) = .rejected .symbolThree ↔ c = 0b11#2) ∧
  (∀ c : BitVec 4, decode (.seqIndex c) = .rejected .seqIndexCode ↔ c ≠ 0b1100#4)

/-! ## The command word and the encoder -/

/-- R40: the four bytes of a WRITE, the first in the low bits. -/
def Obligations.CommandWordLittleEndian : Prop :=
  ∀ b0 b1 b2 b3 : Byte,
    (commandWord b0 b1 b2 b3).toNat =
      b0.toNat + 2 ^ 8 * b1.toNat + 2 ^ 16 * b2.toNat + 2 ^ 24 * b3.toNat

/-- R70, R71, R72: the three fields of a command word as numbers. -/
def Obligations.CommandFields : Prop :=
  ∀ w : Word,
    (period w).toNat = w.toNat / 2 ^ 23 ∧
    (repeats w).toNat = 2 ^ (w.toNat / 2 ^ 20 % 8) ∧
    (payload w).toNat = w.toNat % 2 ^ 20

/-- R53, R67: a command word is its three fields, and every triple of fields is a command word. -/
def Obligations.CommandFieldsRoundTrip : Prop :=
  (∀ w : Word, commandOf (period w) (repExp w) (payload w) = w) ∧
  (∀ (t : BitVec 9) (r : BitVec 3) (p : BitVec 20),
    period (commandOf t r p) = t ∧ repExp (commandOf t r p) = r ∧ payload (commandOf t r p) = p ∧
    (commandOf t r p).toNat = t.toNat * 2 ^ 23 + r.toNat * 2 ^ 20 + p.toNat)

/-- R75: the thirteenth trit is dropped, with the rule's three examples. -/
def Obligations.EncodeTruncates : Prop :=
  (∀ p : BitVec 20, encode12 p = encode12 (BitVec.ofNat 20 (p.toNat % 531441))) ∧
  (∀ p : BitVec 20, 531441 ≤ p.toNat → p.toNat / 3 ^ 12 = 1) ∧
  encode12 531441 = 0x000000#24 ∧ encode12 531442 = 0x400000#24 ∧ encode12 1048575 = 0x11162A#24

/-- R76: the packed words are exactly the 531441 words without a slot 3; the largest is 0xAAAAAA. -/
def Obligations.EncodeImage : Prop :=
  (∀ a : BitVec 24, (∃ p : BitVec 20, encode12 p = a) ↔ SlotsLegal a) ∧
  Set.ncard (Set.range encode12) = 531441 ∧
  encode12 531440 = 0xAAAAAA#24 ∧ ∀ p : BitVec 20, encode12 p ≤ 0xAAAAAA#24

/-- R74, R78: `decode12` is the weighted sum of the slots; slot `j` of a packed payload holds the trit of weight `3^(11-j)`;
and the round-trip law. -/
def Obligations.DecodeTwelveRoundTrip : Prop :=
  (∀ a : BitVec 24, SlotsLegal a →
    decode12 a = ((List.range 12).map (fun j => (slot a j).toNat * 3 ^ (11 - j))).sum) ∧
  (∀ (p : BitVec 20) (j : Nat), j < 12 → (slot (encode12 p) j).toNat = trit p (11 - j)) ∧
  (∀ p : BitVec 20,
    decode12 (encode12 p) = p.toNat % 3 ^ 12 ∧ (decode12 (encode12 p) = p.toNat ↔ p.toNat < 531441))

/-- R77: ENCODE where it is enabled, with the rule's corner cases and its worked example. -/
def Obligations.EncodeLoadsTelegram : Prop :=
  decode (.phase 0b01#2) = .ok .encode ∧
  (∀ (s : State) (w : Word), s.faults = [] → s.phase = .wrote .encode → s.cmd = .wrote w →
    exec .encode s = .next { s with
      period := .wrote (period w)
      repLeft := .wrote (repeats w)
      acc := .wrote (encode12 (payload w))
      work := .wrote (encode12 (payload w))
      symIdx := .wrote 0
      stepIdx := .wrote 0
      holding := .wrote false
      phase := .wrote .send }) ∧
  (period 0 = 0 ∧ repeats 0 = 1 ∧ encode12 (payload 0) = 0 ∧ (∀ w : Word, repExp w = 7 → repeats w = 128)) ∧
  (period 0xAF10000D = 350 ∧ repeats 0xAF10000D = 2 ∧ encode12 (payload 0xAF10000D) = 0x540000#24)

/-! ## Requests: the answer of each, with the frame (all other state is that of `s`) -/

/-- R99. -/
def Obligations.OpenAnswers : Prop :=
  ∀ (s : State) (c : Caller) (len : Nat) (buf : List Byte),
    decode (.request ⟨0b001#3, c, len, buf⟩) = .ok (.openReq c len) ∧
    (CanIssue s c →
      (s.life ≠ .ready →
        exec (.openReq c len) s = .next (requestFault s c .notReady (.request 0b001#3 c len))) ∧
      (s.life = .ready → s.openCount = .wrote true →
        exec (.openReq c len) s = .next (answered s c .busy 0)) ∧
      (s.life = .ready → s.openCount = .wrote false →
        exec (.openReq c len) s = .next { answered s c .ok 0 with openCount := .wrote true }))

/-- R100. Nothing is asked of `PHASE`: a transmission in flight goes on as it was. -/
def Obligations.CloseAnswers : Prop :=
  ∀ (s : State) (c : Caller) (len : Nat) (buf : List Byte),
    decode (.request ⟨0b010#3, c, len, buf⟩) = .ok (.closeReq c len) ∧
    (CanIssue s c →
      (s.life ≠ .ready →
        exec (.closeReq c len) s = .next (requestFault s c .notReady (.request 0b010#3 c len))) ∧
      (s.life = .ready → s.openCount = .wrote false →
        exec (.closeReq c len) s = .next (requestFault s c .notOpen (.request 0b010#3 c len))) ∧
      (s.life = .ready → s.openCount = .wrote true →
        exec (.closeReq c len) s = .next { answered s c .ok 0 with openCount := .wrote false }))

/-- R101: `LEN` plays no part. -/
def Obligations.ReadAnswers : Prop :=
  ∀ (s : State) (c : Caller) (len : Nat) (buf : List Byte),
    decode (.request ⟨0b011#3, c, len, buf⟩) = .ok (.readReq c len) ∧
    (CanIssue s c →
      (s.life ≠ .ready →
        exec (.readReq c len) s = .next (requestFault s c .notReady (.request 0b011#3 c len))) ∧
      (s.life = .ready → s.openCount = .wrote false →
        exec (.readReq c len) s = .next (requestFault s c .notOpen (.request 0b011#3 c len))) ∧
      (s.life = .ready → s.openCount = .wrote true →
        exec (.readReq c len) s = .next (answered s c .ok 0)))

/-- R102, R103, R106: the length guard comes first, then the transmission in flight; an accepted WRITE latches the
little-endian word and leaves its caller blocked. -/
def Obligations.WriteAnswers : Prop :=
  ∀ (s : State) (c : Caller) (buf : List Byte),
    decode (.request ⟨0b100#3, c, buf.length, buf⟩) = .ok (.writeReq c buf) ∧
    (CanIssue s c →
      (s.life ≠ .ready →
        exec (.writeReq c buf) s = .next (requestFault s c .notReady (.request 0b100#3 c buf.length))) ∧
      (s.life = .ready → s.openCount = .wrote false →
        exec (.writeReq c buf) s = .next (requestFault s c .notOpen (.request 0b100#3 c buf.length))) ∧
      (s.life = .ready → s.openCount = .wrote true → buf.length ≠ 4 →
        exec (.writeReq c buf) s = .next (answered s c .invalidLength 0)) ∧
      (s.life = .ready → s.openCount = .wrote true → buf.length = 4 →
        s.phase = .wrote .encode ∨ s.phase = .wrote .send →
        exec (.writeReq c buf) s = .next (requestFault s c .concurrentWrite (.request 0b100#3 c 4))) ∧
      (s.life = .ready → s.openCount = .wrote true → s.phase = .wrote .idle →
        ∀ b0 b1 b2 b3 : Byte, buf = [b0, b1, b2, b3] →
          exec (.writeReq c buf) s = .next { s with
            await := awaitInsert c s.await
            cmd := .wrote (b3 ++ b2 ++ b1 ++ b0)
            writer := .wrote (some c)
            phase := .wrote .encode }))

/-- R95: both answers of the line collaborator, a second STARTUP, and every request after a failed one. -/
def Obligations.StartupAnswers : Prop :=
  ∀ (s : State) (c : Caller) (len : Nat) (buf : List Byte),
    decode (.request ⟨0b101#3, c, len, buf⟩) = .ok (.startupReq c len) ∧
    (CanIssue s c →
      (s.life ≠ .uninit →
        exec (.startupReq c len) s = .next (requestFault s c .lifecycle (.request 0b101#3 c len))) ∧
      (s.life = .uninit → Config.acquireOk Config.lineId = false →
        exec (.startupReq c len) s = .next { answered s c .lineFailure 0 with life := .failed }) ∧
      (s.life = .uninit → Config.acquireOk Config.lineId = true →
        exec (.startupReq c len) s = .next { answered s c .ok 0 with
          lineOwned := true
          openCount := .wrote false
          phase := .wrote .idle
          holding := .wrote false
          writer := .wrote none
          life := .ready }) ∧
      (s.life = .failed →
        exec (.openReq c len) s = .next (requestFault s c .notReady (.request 0b001#3 c len)) ∧
        exec (.closeReq c len) s = .next (requestFault s c .notReady (.request 0b010#3 c len)) ∧
        exec (.readReq c len) s = .next (requestFault s c .notReady (.request 0b011#3 c len)) ∧
        exec (.writeReq c buf) s = .next (requestFault s c .notReady (.request 0b100#3 c buf.length)) ∧
        exec (.shutdownReq c len) s = .next (requestFault s c .notReady (.request 0b110#3 c len))))

/-- R96. -/
def Obligations.ShutdownAnswers : Prop :=
  ∀ (s : State) (c : Caller) (len : Nat) (buf : List Byte),
    decode (.request ⟨0b110#3, c, len, buf⟩) = .ok (.shutdownReq c len) ∧
    (CanIssue s c →
      (s.life ≠ .ready →
        exec (.shutdownReq c len) s = .next (requestFault s c .notReady (.request 0b110#3 c len))) ∧
      (s.life = .ready → s.openCount.written = true → s.phase.written = true →
        s.openCount = .wrote true ∨ s.phase ≠ .wrote .idle →
        exec (.shutdownReq c len) s = .next (requestFault s c .lifecycle (.request 0b110#3 c len))) ∧
      (s.life = .ready → s.openCount = .wrote false → s.phase = .wrote .idle →
        exec (.shutdownReq c len) s = .next { answered s c .ok 0 with
          life := .released
          lineOwned := false }))

/-- R94 check 1, R111: a request with a reserved `OP` raises F_RESERVED_OP whatever `LIFE` is. -/
def Obligations.ReservedOpFaults : Prop :=
  ∀ (s : State) (r : Request) (rest : List Move),
    s.faults = [] → s.schedule = .request r :: rest → r.caller ∉ s.await →
    r.caller.wf Config.nCallers = true → r.op = 0b000#3 ∨ r.op = 0b111#3 →
    step s = .next (requestFault { s with schedule := rest } r.caller .reservedOp
      (.request r.op r.caller r.len))

/-- R35: a step that reads a register no step has written records F_UNWRITTEN. The reads: OPEN_COUNT by OPEN, CLOSE, READ,
WRITE and SHUTDOWN; PHASE by WRITE and SHUTDOWN; CMD by ENCODE; SYMIDX, STEP and PERIOD by the symbols and TERM, and WORK at
STEP 0 or SYM at STEP 1 to 3 by the symbols; HOLD_NOM, SYMIDX and STEP by EXPIRE, at the end of a frame REP_LEFT, and then ACC
before another frame or WRITER at the end of the transmission; and, in `step`, the registers that select the Transmitter's
operation. Which registers are tested, that the test comes before any write, and the name EMIT in the record of the selection
are the model's reading (log 10, log 18). -/
def Obligations.UnwrittenReadFaults : Prop :=
  (∀ (s : State) (c : Caller) (len : Nat) (buf : List Byte), CanIssue s c → s.life = .ready →
    s.openCount.written = false →
    exec (.openReq c len) s = .next (requestFault s c .unwritten (.request 0b001#3 c len)) ∧
    exec (.closeReq c len) s = .next (requestFault s c .unwritten (.request 0b010#3 c len)) ∧
    exec (.readReq c len) s = .next (requestFault s c .unwritten (.request 0b011#3 c len)) ∧
    exec (.writeReq c buf) s = .next (requestFault s c .unwritten (.request 0b100#3 c buf.length)) ∧
    exec (.shutdownReq c len) s = .next (requestFault s c .unwritten (.request 0b110#3 c len))) ∧
  (∀ (s : State) (c : Caller) (len : Nat) (buf : List Byte), CanIssue s c → s.life = .ready →
    s.openCount.written = true → s.phase.written = false →
    (s.openCount.held = true → buf.length = 4 →
      exec (.writeReq c buf) s = .next (requestFault s c .unwritten (.request 0b100#3 c 4))) ∧
    exec (.shutdownReq c len) s = .next (requestFault s c .unwritten (.request 0b110#3 c len))) ∧
  (∀ s : State, s.faults = [] → s.phase = .wrote .encode → s.cmd.written = false →
    exec .encode s = .next (stepFault s .unwritten (.step .encode))) ∧
  (∀ s : State, s.faults = [] → s.lineOwned = true → s.phase = .wrote .send → s.holding = .wrote false →
    (s.symIdx.written = false ∨ s.stepIdx.written = false ∨ s.period.written = false →
      ∀ i, IsEmit i → exec i s = .next (stepFault s .unwritten (.step .emit))) ∧
    (s.stepIdx.held = 0 ∧ s.work.written = false ∨ s.stepIdx.held ≠ 0 ∧ s.sym.written = false →
      ∀ i, i = .sym0 ∨ i = .sym1 ∨ i = .sym2 → exec i s = .next (stepFault s .unwritten (.step .emit)))) ∧
  (∀ s : State, s.faults = [] → s.phase = .wrote .send → s.holding = .wrote true →
    (s.holdNom.written = false ∨ s.symIdx.written = false ∨ s.stepIdx.written = false →
      exec .expire s = .next (stepFault s .unwritten (.step .expire))) ∧
    (12 ≤ s.symIdx.held → s.stepIdx.held ≠ 0 →
      s.repLeft.written = false ∨ (s.repLeft.held ≠ 1 ∧ s.acc.written = false) ∨
        (s.repLeft.held = 1 ∧ s.writer.written = false) →
      exec .expire s = .next (stepFault s .unwritten (.step .expire)))) ∧
  (∀ s : State, s.faults = [] → s.phase = .wrote .send →
    s.holding.written = false ∨ (s.holding = .wrote false ∧
      (s.symIdx.written = false ∨ s.stepIdx.written = false ∨ (s.symIdx.held < 12 ∧ slotWritten s = false))) →
    (s.schedule = [] → step s = .next (stepFault s .unwritten (.step .emit))) ∧
    (∀ rest, s.schedule = .transmit :: rest →
      step s = .next (stepFault { s with schedule := rest } .unwritten (.step .emit))) ∧
    (∀ r rest, s.schedule = .request r :: rest → r.caller ∈ s.await →
      step s = .next (stepFault s .unwritten (.step .emit))))

/-! ## The Transmitter -/

/-- R81. -/
def Obligations.SymZeroEmits : Prop :=
  decode (.symbol 0b00#2) = .ok .sym0 ∧
  ∀ s : State, EmitsSymbol s 0b00#2 →
    (s.stepIdx.held = 0 → exec .sym0 s = .next (held (slotTaken s) true 1)) ∧
    (s.stepIdx.held = 1 → exec .sym0 s = .next (held s false 3)) ∧
    (s.stepIdx.held = 2 → exec .sym0 s = .next (held s true 1)) ∧
    (s.stepIdx.held = 3 → exec .sym0 s = .next (held s false 3))

/-- R82. -/
def Obligations.SymOneEmits : Prop :=
  decode (.symbol 0b01#2) = .ok .sym1 ∧
  ∀ s : State, EmitsSymbol s 0b01#2 →
    (s.stepIdx.held = 0 → exec .sym1 s = .next (held (slotTaken s) true 3)) ∧
    (s.stepIdx.held = 1 → exec .sym1 s = .next (held s false 1)) ∧
    (s.stepIdx.held = 2 → exec .sym1 s = .next (held s true 3)) ∧
    (s.stepIdx.held = 3 → exec .sym1 s = .next (held s false 1))

/-- R83. -/
def Obligations.SymTwoEmits : Prop :=
  decode (.symbol 0b10#2) = .ok .sym2 ∧
  ∀ s : State, EmitsSymbol s 0b10#2 →
    (s.stepIdx.held = 0 → exec .sym2 s = .next (held (slotTaken s) true 1)) ∧
    (s.stepIdx.held = 1 → exec .sym2 s = .next (held s false 3)) ∧
    (s.stepIdx.held = 2 → exec .sym2 s = .next (held s true 3)) ∧
    (s.stepIdx.held = 3 → exec .sym2 s = .next (held s false 1))

/-- R84. -/
def Obligations.TermEmits : Prop :=
  decode (.seqIndex 0b1100#4) = .ok .term ∧
  ∀ s : State, EmitsTerm s →
    (s.stepIdx.held = 0 → exec .term s = .next (held s true 1)) ∧
    (s.stepIdx.held = 1 → exec .term s = .next (held s false 31))

/-- R88, R85: EMIT by the position alone, as `step` takes it when nothing is scheduled; a slot code 3 is F_SYMBOL3 and
nothing is emitted. That the fault leaves SYM and WORK as they were is the model's reading (log 10). -/
def Obligations.EmitByPosition : Prop :=
  ∀ s : State, s.faults = [] → s.schedule = [] → s.lineOwned = true → s.phase = .wrote .send →
    s.holding = .wrote false → s.symIdx.written = true → s.stepIdx.written = true →
    s.period.written = true →
    (s.symIdx.held < 12 → slotWritten s = true →
      (∀ x, slotCode s ≠ 3 → (symbolPulses (slotCode s).toNat)[s.stepIdx.held.toNat]? = some x →
        step s = .next (held (if s.stepIdx.held = 0 then slotTaken s else s) x.1 x.2)) ∧
      (slotCode s = 3 → step s = .next (stepFault s .symbolThree (.step .emit)))) ∧
    (s.symIdx.held = 12 →
      (s.stepIdx.held = 0 → step s = .next (held s true 1)) ∧
      (s.stepIdx.held = 1 → step s = .next (held s false 31)))

/-- R89, R90: EXPIRE ends the hold after a duration of its window and advances the position: within a symbol, to the next
slot, within the gap, to the next frame with WORK reloaded, and to IDLE with the writer answered. What it says of an empty
TRACE (log 21) and of the end of a frame with REP_LEFT = 0 (log 22) is the model's choice. -/
def Obligations.ExpireAdvances : Prop :=
  decode (.timing 1#1) = .ok .expire ∧
  ∀ s : State, HoldEnds s → ∃ d, InWindow s.holdNom.held.toNat d ∧
    (s.symIdx.held < 12 → s.stepIdx.held ≠ 3 →
      exec .expire s = .next { expired s d with
        symIdx := .wrote s.symIdx.held
        stepIdx := .wrote (s.stepIdx.held + 1) }) ∧
    (s.symIdx.held < 12 → s.stepIdx.held = 3 →
      exec .expire s = .next { expired s d with
        symIdx := .wrote (s.symIdx.held + 1)
        stepIdx := .wrote 0 }) ∧
    (s.symIdx.held = 12 → s.stepIdx.held = 0 →
      exec .expire s = .next { expired s d with
        symIdx := .wrote 12
        stepIdx := .wrote 1 }) ∧
    (s.symIdx.held = 12 → s.stepIdx.held = 1 → s.repLeft.written = true → s.repLeft.held ≠ 1 →
      s.acc.written = true →
      exec .expire s = .next { expired s d with
        symIdx := .wrote 0
        stepIdx := .wrote 0
        repLeft := .wrote (s.repLeft.held - 1)
        work := s.acc }) ∧
    (∀ c, s.symIdx.held = 12 → s.stepIdx.held = 1 → s.repLeft = .wrote 1 → s.writer = .wrote (some c) →
      exec .expire s = .next { expired s d with
        symIdx := .wrote 0
        stepIdx := .wrote 0
        repLeft := .wrote 0
        phase := .wrote .idle
        writer := .wrote none
        await := awaitErase c s.await
        responses := s.responses ++ [⟨c, .ok, 4⟩] })

/-- Where an operation is not enabled it stops by name and does nothing: a request of a blocked caller (R32); ENCODE outside
`PHASE = ENCODE` (R77); EMIT outside `PHASE = SEND` and `HOLDING = 0`, at a position or slot of another row, or on a line not
owned (R31, R88); EXPIRE with no hold running (R89); TERM past its two transitions (R23). The names are the model's (log 9,
log 11). -/
def Obligations.DisabledOperationsStop : Prop :=
  ∀ s : State, s.faults = [] →
    (∀ i c, requester i = some c → c ∈ s.await → exec i s = .fault .notEnabled) ∧
    (s.phase ≠ .wrote .encode → exec .encode s = .fault .notEnabled) ∧
    (∀ i, IsEmit i → s.phase ≠ .wrote .send ∨ s.holding ≠ .wrote false → exec i s = .fault .notEnabled) ∧
    (s.phase ≠ .wrote .send ∨ s.holding ≠ .wrote true → exec .expire s = .fault .notEnabled) ∧
    (s.phase = .wrote .send → s.holding = .wrote false →
      (s.lineOwned = false → ∀ i, IsEmit i → exec i s = .fault .lineNotOwned) ∧
      (s.lineOwned = true → s.symIdx.written = true → s.stepIdx.written = true → s.period.written = true →
        (slotWritten s = true →
          (12 ≤ s.symIdx.held ∨ slotCode s ≠ 0 → exec .sym0 s = .fault .notEnabled) ∧
          (12 ≤ s.symIdx.held ∨ slotCode s ≠ 1 → exec .sym1 s = .fault .notEnabled) ∧
          (12 ≤ s.symIdx.held ∨ slotCode s ≠ 2 → exec .sym2 s = .fault .notEnabled)) ∧
        (s.symIdx.held ≠ 12 → exec .term s = .fault .notEnabled) ∧
        (s.symIdx.held = 12 → 2 ≤ s.stepIdx.held → exec .term s = .fault .noTransition)))

/-- R58, R60: `step` stops by name at a sequencer position that never occurs, and refuses what is no request of R60: an
unknown caller, or a WRITE whose buffer does not hold `LEN` bytes. The names are the model's (log 12, log 13). -/
def Obligations.UnusedCodesStop : Prop :=
  (∀ s : State, s.faults = [] → s.schedule = [] → s.phase = .wrote .send → s.holding = .wrote false →
    s.symIdx.written = true → s.stepIdx.written = true → 12 < s.symIdx.held →
    step s = .fault .positionUnused) ∧
  (∀ (s : State) (r : Request) (rest : List Move), s.faults = [] → s.schedule = .request r :: rest →
    r.caller ∉ s.await →
    (r.caller.wf Config.nCallers = false → step s = .refused .noSuchCaller) ∧
    (r.caller.wf Config.nCallers = true → r.op = 0b100#3 → r.buf.length ≠ r.len →
      step s = .refused .bufferNotPresented))

/-- R13: every drawn hold lies in its window; with `TOL_US = 0` it is exact. -/
def Obligations.HoldInWindow : Prop :=
  ∀ n k : Nat, InWindow n (holdDuration n k) ∧ (Config.tolUs = 0 → holdDuration n k = n)

/-- R28: every nominal hold fits the 14 bits of HOLD_NOM, and the longest is 15841. -/
def Obligations.NominalHoldFits : Prop :=
  ∀ (t : BitVec 9) (m : Nat), m = 1 ∨ m = 3 ∨ m = 31 →
    (BitVec.ofNat 14 (nominalHold m t)).toNat = m * t.toNat ∧ m * t.toNat ≤ 15841

/-- R134: the windows of a 1T and a 3T hold overlap exactly when T is at most the tolerance. -/
def Obligations.WindowsOverlap : Prop :=
  ∀ t : Nat, (∃ d, InWindow t d ∧ InWindow (3 * t) d) ↔ t ≤ Config.tolUs

/-- R135: the drift of a sequence of holds is at most one tolerance a hold, either way. -/
def Obligations.DriftBound : Prop :=
  ∀ l : List Transition, (∀ x ∈ l, Elapsed x) →
    (l.map (fun x => x.actual.getD 0)).sum ≤ (l.map (fun x => x.nominal)).sum + l.length * Config.tolUs ∧
    (l.map (fun x => x.nominal)).sum ≤ (l.map (fun x => x.actual.getD 0)).sum + l.length * Config.tolUs

/-- R80, R86, R87, R92: the totals of a telegram: transitions, nominal length, the bound of R87, and levels that alternate. -/
def Obligations.TelegramTotals : Prop :=
  ∀ w : Word,
    (frameSpec w).length = 50 ∧ ((frameSpec w).map (fun x => x.2)).sum = 128 ∧
    (telegramSpec w).length = 2 ^ (repExp w).toNat * 50 ∧
    ((telegramSpec w).map (fun x => (timed (period w) x).2)).sum =
      2 ^ (repExp w).toNat * 128 * (period w).toNat ∧
    2 ^ (repExp w).toNat * 128 * (period w).toNat ≤ 8372224 ∧
    (telegramSpec w).map (fun x => x.1) =
      (List.replicate (2 ^ (repExp w).toNat * 25) [true, false]).flatten

/-- R49, R50, R86, R87, R90: left alone, the Transmitter sends exactly the telegram of the latched word, answers nobody
before the last hold has ended, and then answers the writer `(OK, 4)` and returns to IDLE with the line low. -/
def Obligations.TransmissionSendsTelegram : Prop :=
  ∀ (s : State) (w : Word) (c : Caller), AboutToSend s w c →
    (∃ (t : State) (ts : List Transition),
      moves (1 + 2 * (2 ^ (repExp w).toNat * 50)) s = .next t ∧
      t.trace = s.trace ++ ts ∧
      ts.map (fun x => (x.high, x.nominal)) = (telegramSpec w).map (timed (period w)) ∧
      (∀ x ∈ ts, Elapsed x) ∧
      t.now = s.now + (ts.map (fun x => x.actual.getD 0)).sum ∧
      t.line = .level false ∧ t.phase = .wrote .idle ∧ t.writer = .wrote none ∧ t.cmd = .wrote w ∧
      t.responses = s.responses ++ [⟨c, .ok, 4⟩] ∧ t.await = awaitErase c s.await ∧
      t.openCount = s.openCount ∧ t.life = s.life ∧ t.faults = []) ∧
    (∀ k, k < 1 + 2 * (2 ^ (repExp w).toNat * 50) →
      ∃ u, moves k s = .next u ∧ u.responses = s.responses ∧ u.await = s.await)

/-! ## The step -/

/-- R15, R47, R93: a step executes the operation its encoding decodes to: the head request of a free caller, with the head
taken; or the Transmitter's, when nothing is scheduled, the Transmitter is scheduled, or the head's caller is blocked. -/
def Obligations.StepRunsDecoded : Prop :=
  (∀ (s : State) (r : Request) (rest : List Move) (i : Instr),
    s.faults = [] → s.schedule = .request r :: rest → r.caller ∉ s.await →
    decode (.request r) = .ok i → i.wf Config.nCallers = true →
    step s = exec i { s with schedule := rest }) ∧
  (∀ (s : State) (e : Encoding) (i : Instr), s.faults = [] → txSelect s = .code e → decode e = .ok i →
    (s.schedule = [] → step s = exec i s) ∧
    (∀ rest, s.schedule = .transmit :: rest → step s = exec i { s with schedule := rest }) ∧
    (∀ r rest, s.schedule = .request r :: rest → r.caller ∈ s.await → step s = exec i s))

/-- R124: with nothing scheduled and no Transmitter step enabled the block waits, unchanged. -/
def Obligations.IdleWaits : Prop :=
  ∀ s : State, s.faults = [] → s.schedule = [] → s.phase ≠ .wrote .encode → s.phase ≠ .wrote .send →
    step s = .next s

/-- R110, R33: a faulted state has no step, of any kind. -/
def Obligations.FaultedIsQuiescent : Prop :=
  ∀ s : State, s.faults ≠ [] → step s = .fault .quiescent ∧ ∀ i : Instr, exec i s = .fault .quiescent

/-- R33: FAULTS only grows, by at most one record a step. -/
def Obligations.FaultsOnlyGrow : Prop :=
  ∀ s t : State, step s = .next t → ∃ l, t.faults = s.faults ++ l ∧ l.length ≤ 1

/-- R110, R115: an operation that raises a fault changes nothing but FAULTS and the blocked caller's AWAIT, and sends no
response. -/
def Obligations.FaultChangesNothingElse : Prop :=
  ∀ (i : Instr) (s t : State), exec i s = .next t → t.faults ≠ [] →
    ∃ code cause a,
      t = { s with await := a, faults := [⟨code, cause, { s.toBlock with await := a }⟩] } ∧
      ((∃ c, requester i = some c ∧ c ∉ s.await ∧ a = awaitInsert c s.await) ∨ (requester i = none ∧ a = s.await))

/-! ## Rules over all operations -/

/-- R30, R31, R133: only EMIT writes the line, and only while the block owns it. -/
def Obligations.LineOnlyByEmit : Prop :=
  ∀ (i : Instr) (s t : State), exec i s = .next t → t.line ≠ s.line →
    IsEmit i ∧ s.lineOwned = true ∧ s.phase = .wrote .send ∧ s.holding = .wrote false

/-- R21, R43, R48, R51: only a WRITE of 4 bytes taken while no transmission is in flight writes CMD. -/
def Obligations.CmdOnlyByWrite : Prop :=
  ∀ (i : Instr) (s t : State), exec i s = .next t → t.cmd ≠ s.cmd →
    ∃ c b0 b1 b2 b3, i = .writeReq c [b0, b1, b2, b3] ∧ s.phase = .wrote .idle ∧
      t.cmd = .wrote (commandWord b0 b1 b2 b3)

/-- R18: LIFE moves only from UNINIT to READY or FAILED, by STARTUP, and from READY to RELEASED, by SHUTDOWN. -/
def Obligations.LifeMovesForward : Prop :=
  ∀ (i : Instr) (s t : State), exec i s = .next t → t.life ≠ s.life →
    (∃ c len, i = .startupReq c len ∧ s.life = .uninit ∧ (t.life = .ready ∨ t.life = .failed)) ∨
    (∃ c len, i = .shutdownReq c len ∧ s.life = .ready ∧ t.life = .released)

/-- R19: OPEN_COUNT goes from 0 to 1 by OPEN and from 1 to 0 by CLOSE only; STARTUP sets it to 0. -/
def Obligations.OpenCountMoves : Prop :=
  ∀ (i : Instr) (s t : State), exec i s = .next t → t.openCount ≠ s.openCount →
    (∃ c len, i = .openReq c len ∧ s.openCount = .wrote false ∧ t.openCount = .wrote true) ∨
    (∃ c len, i = .closeReq c len ∧ s.openCount = .wrote true ∧ t.openCount = .wrote false) ∨
    (∃ c len, i = .startupReq c len ∧ t.openCount = .wrote false)

/-- R28, R34, R140: only EXPIRE advances NOW; only EMIT lengthens TRACE, by one pending entry; a request or ENCODE leaves
both. -/
def Obligations.TimeOnlyInHolds : Prop :=
  ∀ (i : Instr) (s t : State), exec i s = .next t →
    (i ≠ .expire → t.now = s.now) ∧
    (i = .expire → t.trace.length = s.trace.length) ∧
    (i ≠ .expire → t.trace ≠ s.trace →
      IsEmit i ∧ ∃ high nominal, t.trace = s.trace ++ [⟨high, nominal, none⟩])

/-- R32, R62, R50: an operation delivers at most one response, to a caller it leaves free: `(OK, 4)` to the writer at the end
of its transmission, or value 0 to the caller of the request. -/
def Obligations.ResponsesOneAtATime : Prop :=
  ∀ (i : Instr) (s t : State), exec i s = .next t → t.responses ≠ s.responses →
    ∃ r, t.responses = s.responses ++ [r] ∧ r.caller ∉ t.await ∧
      ((i = .expire ∧ r.status = .ok ∧ r.value = 4 ∧ s.phase = .wrote .send ∧ t.phase = .wrote .idle ∧
          s.writer = .wrote (some r.caller)) ∨
        (requester i = some r.caller ∧ r.value = 0))

/-- R107, R108: BUSY is the answer of an OPEN in an open session alone, INVALID_LENGTH of a WRITE of another length alone,
and both leave all state but the response as it was. -/
def Obligations.ErrorResponsesChangeNothing : Prop :=
  ∀ (i : Instr) (s t : State) (c : Caller) (st : Status) (v : BitVec 32), exec i s = .next t →
    t.responses = s.responses ++ [⟨c, st, v⟩] → st = .busy ∨ st = .invalidLength →
    t = answered s c st 0 ∧ (st = .busy → s.openCount = .wrote true ∧ ∃ len, i = .openReq c len) ∧
      (st = .invalidLength → ∃ buf, i = .writeReq c buf ∧ buf.length ≠ 4)

/-- R91, R100, R104: no request stops, shortens or alters a transmission in flight. -/
def Obligations.NoCancellation : Prop :=
  ∀ (i : Instr) (c : Caller) (s t : State), requester i = some c → s.life = .ready →
    s.phase = .wrote .encode ∨ s.phase = .wrote .send → exec i s = .next t → SameTransmission s t

/-- R98, R105: a second OPEN is BUSY while the session is open; after its CLOSE a new OPEN succeeds. -/
def Obligations.SessionIsExclusive : Prop :=
  ∀ (s : State) (a b : Caller) (la lb lc ld : Nat), CanIssue s a → CanIssue s b → s.life = .ready →
    s.openCount = .wrote false →
    ∃ t1 t2 t3 t4,
      exec (.openReq a la) s = .next t1 ∧ exec (.openReq b lb) t1 = .next t2 ∧
      exec (.closeReq a lc) t2 = .next t3 ∧ exec (.openReq b ld) t3 = .next t4 ∧
      t4 = { s with
        openCount := .wrote true
        responses := s.responses ++ [⟨a, .ok, 0⟩, ⟨b, .busy, 0⟩, ⟨a, .ok, 0⟩, ⟨b, .ok, 0⟩] }

/-! ## Frames -/

/-- R99 to R101, R44: whatever OPEN, CLOSE, READ or SHUTDOWN answer, the transmission registers, the line's level, CMD, TRACE
and NOW are unchanged; OPEN, CLOSE and READ leave LIFE and LINE_OWNED, READ and SHUTDOWN leave OPEN_COUNT. -/
def Obligations.SessionFrames : Prop :=
  ∀ (s t : State) (c : Caller) (len : Nat),
    (exec (.openReq c len) s = .next t ∨ exec (.closeReq c len) s = .next t →
      SameTransmission s t ∧ t.schedule = s.schedule) ∧
    (exec (.readReq c len) s = .next t →
      SameTransmission s t ∧ t.schedule = s.schedule ∧ t.openCount = s.openCount) ∧
    (exec (.shutdownReq c len) s = .next t →
      SameTransmission s { t with life := s.life, lineOwned := s.lineOwned } ∧
      t.schedule = s.schedule ∧ t.openCount = s.openCount)

/-- R95, R102: whatever STARTUP or WRITE answer, the datapath registers and the observation of the line are unchanged. -/
def Obligations.StartupAndWriteFrames : Prop :=
  ∀ (s t : State) (c : Caller) (len : Nat) (buf : List Byte),
    (exec (.startupReq c len) s = .next t →
      SameTransmission s { t with
        phase := s.phase, holding := s.holding, writer := s.writer
        life := s.life, lineOwned := s.lineOwned } ∧ t.schedule = s.schedule) ∧
    (exec (.writeReq c buf) s = .next t →
      SameTransmission s { t with phase := s.phase, cmd := s.cmd, writer := s.writer } ∧
      t.schedule = s.schedule ∧ t.openCount = s.openCount)

/-- R77, R88: what ENCODE, the symbols and TERM leave unchanged. -/
def Obligations.EncodeAndEmitFrames : Prop :=
  ∀ s t : State,
    (exec .encode s = .next t →
      t = { s with
        period := t.period, repLeft := t.repLeft, acc := t.acc, work := t.work, symIdx := t.symIdx
        stepIdx := t.stepIdx, holding := t.holding, phase := t.phase, faults := t.faults }) ∧
    (exec .sym0 s = .next t ∨ exec .sym1 s = .next t ∨ exec .sym2 s = .next t →
      t = { s with
        sym := t.sym, work := t.work, line := t.line, trace := t.trace, holdNom := t.holdNom
        holding := t.holding, faults := t.faults } ∧
      (s.stepIdx.held ≠ 0 → t.sym = s.sym ∧ t.work = s.work)) ∧
    (exec .term s = .next t →
      t = { s with
        line := t.line, trace := t.trace, holdNom := t.holdNom, holding := t.holding, faults := t.faults })

/-- R89, R90: what EXPIRE leaves unchanged; outside the end of a frame also REP_LEFT and WORK, outside the end of the
transmission also PHASE, WRITER, AWAIT and the responses. That a frame ended with REP_LEFT = 0 does not end the transmission is
the model's choice (log 22). -/
def Obligations.ExpireFrame : Prop :=
  ∀ s t : State, exec .expire s = .next t →
    t = { s with
      now := t.now, trace := t.trace, holding := t.holding, draws := t.draws, symIdx := t.symIdx
      stepIdx := t.stepIdx, repLeft := t.repLeft, work := t.work, phase := t.phase, writer := t.writer
      await := t.await, responses := t.responses, faults := t.faults } ∧
    (s.symIdx.held < 12 ∨ s.stepIdx.held = 0 → t.repLeft = s.repLeft ∧ t.work = s.work) ∧
    (s.symIdx.held < 12 ∨ s.stepIdx.held = 0 ∨ s.repLeft.held ≠ 1 →
      t.phase = s.phase ∧ t.writer = s.writer ∧ t.await = s.await ∧ t.responses = s.responses)

/-! ## Invariants -/

/-- R125: the state invariants hold at power-on. -/
def Obligations.InvariantsAtReset : Prop := Inv State.reset ∧ TraceInv State.reset

/-- R125, R17: the power-on values the spec gives, and that no other register is written. -/
def Obligations.PowerOnState : Prop :=
  State.reset.life = .uninit ∧ State.reset.lineOwned = false ∧ State.reset.line = .unknown ∧
  (∀ c, c ∉ State.reset.await) ∧ State.reset.faults = [] ∧ State.reset.trace = [] ∧ State.reset.now = 0 ∧
  State.reset.openCount.written = false ∧ State.reset.phase.written = false ∧
  State.reset.cmd.written = false ∧ State.reset.period.written = false ∧
  State.reset.repLeft.written = false ∧ State.reset.acc.written = false ∧
  State.reset.work.written = false ∧ State.reset.sym.written = false ∧
  State.reset.symIdx.written = false ∧ State.reset.stepIdx.written = false ∧
  State.reset.holding.written = false ∧ State.reset.holdNom.written = false ∧
  State.reset.writer.written = false

/-- R32: AWAIT keeps its canonical form in every step, from every state. -/
def Obligations.AwaitStaysCanonical : Prop :=
  ∀ s t : State, AwaitWf s.await → step s = .next t → AwaitWf t.await

/-- R38, R29, R31, R32: every step keeps the state invariants. -/
def Obligations.InvariantsKept : Prop :=
  ∀ s t : State, Inv s → step s = .next t → Inv t

/-- R28, R34, R13: every step keeps NOW equal to the sum of the actual holds, the last transition pending exactly while a
hold runs, and every other hold inside its window. -/
def Obligations.TraceInvariantKept : Prop :=
  ∀ s t : State, Inv s → TraceInv s → step s = .next t → TraceInv t

/-- R35, R85, R111: under the invariants no step records F_UNWRITTEN or F_SYMBOL3, and the block never stops by itself: with
no fault recorded, and a well-formed request at the head if one is there, there is a next state. -/
def Obligations.NeverStuck : Prop :=
  ∀ s : State, Inv s → s.faults = [] →
    (∀ r rest, s.schedule = .request r :: rest → r.wf Config.nCallers = true) →
    ∃ t, step s = .next t ∧ ∀ f ∈ t.faults, f.code ≠ .unwritten ∧ f.code ≠ .symbolThree
end

