-- ==== Sys2Proof/Laws/Await.lean ====
section
/-! SUPPORT. The AWAIT bits: what setting and clearing one leaves, and that both keep the canonical form. -/

namespace Sys2Proof.Machine

/-- Two callers with one key are one caller. -/
theorem callerKey_inj {a b : Caller} (h : callerKey a = callerKey b) : a = b := by
  cases a <;> cases b <;> simp_all [callerKey]

@[simp] theorem mem_awaitInsert (c d : Caller) (l : List Caller) :
    d ∈ awaitInsert c l ↔ d = c ∨ d ∈ l := by
  induction l with
  | nil => simp [awaitInsert]
  | cons e es ih =>
    unfold awaitInsert
    split
    · simp
    · split
      · rename_i h; subst h; simp
      · simp [ih]; tauto

@[simp] theorem mem_awaitErase (c d : Caller) (l : List Caller) :
    d ∈ awaitErase c l ↔ d ≠ c ∧ d ∈ l := by
  simp [awaitErase, and_comm]

/-- A response leaves `AWAIT` as it was before the request was issued (R32). -/
theorem awaitErase_awaitInsert {c : Caller} {l : List Caller} (h : c ∉ l) :
    awaitErase c (awaitInsert c l) = l := by
  induction l with
  | nil => simp [awaitInsert, awaitErase]
  | cons e es ih =>
    have hne : e ≠ c := fun he => h (by simp [he])
    have hes : awaitErase c es = es := List.filter_eq_self.mpr (fun d hd => by
      have : d ≠ c := fun he => h (by simp [← he, hd])
      simpa using this)
    unfold awaitInsert
    split
    · simp only [awaitErase, List.filter_cons, bne_self_eq_false, Bool.false_eq_true, if_false]
      simpa [hne, awaitErase] using hes
    · have hce : ¬ c = e := fun he => hne he.symm
      have := ih (fun hc => h (List.mem_cons_of_mem _ hc))
      simpa [hce, hne, awaitErase] using this

theorem AwaitWf_awaitInsert {c : Caller} {l : List Caller} (h : AwaitWf l) : AwaitWf (awaitInsert c l) := by
  induction l with
  | nil => simp [awaitInsert, AwaitWf]
  | cons e es ih =>
    obtain ⟨he, hes⟩ := List.pairwise_cons.mp h
    unfold awaitInsert
    split
    · rename_i hlt
      refine List.pairwise_cons.mpr ⟨fun d hd => ?_, h⟩
      rcases List.mem_cons.mp hd with rfl | hd
      · exact hlt
      · exact hlt.trans (he d hd)
    · split
      · exact h
      · rename_i hnlt hne
        refine List.pairwise_cons.mpr ⟨fun d hd => ?_, ih hes⟩
        rcases (mem_awaitInsert c d es).mp hd with rfl | hd
        · have : callerKey e ≠ callerKey d := fun hk => hne (callerKey_inj hk).symm
          omega
        · exact he d hd

theorem AwaitWf_awaitErase {c : Caller} {l : List Caller} (h : AwaitWf l) : AwaitWf (awaitErase c l) :=
  List.Pairwise.filter _ h

end Sys2Proof.Machine
end

