-- ==== Sys2Proof/Laws/State.lean ====
section
/-! SUPPORT. What each named update of State leaves in each field, true by definition. -/

namespace Sys2Proof.Machine

@[simp] theorem Reg.wrote_held {α : Type} (v : α) : (Reg.wrote v).held = v := rfl
@[simp] theorem Reg.wrote_written {α : Type} (v : α) : (Reg.wrote v).written = true := rfl
@[simp] theorem Reg.blank_held {α : Type} (v : α) : (Reg.blank v).held = v := rfl
@[simp] theorem Reg.blank_written {α : Type} (v : α) : (Reg.blank v).written = false := rfl

/-- Registers are equal to a written value exactly when they are written and hold it. -/
theorem Reg.eq_wrote_iff {α : Type} (r : Reg α) (v : α) : r = .wrote v ↔ r.written = true ∧ r.held = v := by
  cases r with
  | mk h w => simp [Reg.wrote, and_comm]

@[simp] theorem Reg.wrote_inj {α : Type} (a b : α) : Reg.wrote a = Reg.wrote b ↔ a = b := by
  simp [Reg.wrote]

@[simp] theorem Reg.blank_ne_wrote {α : Type} (a b : α) : Reg.blank a ≠ Reg.wrote b := by
  simp [Reg.wrote, Reg.blank]


/-! `issue` -/

@[simp] theorem issue_life (s : State) (c : Caller) : (s.issue c).life = s.life := rfl
@[simp] theorem issue_lineOwned (s : State) (c : Caller) : (s.issue c).lineOwned = s.lineOwned := rfl
@[simp] theorem issue_openCount (s : State) (c : Caller) : (s.issue c).openCount = s.openCount := rfl
@[simp] theorem issue_phase (s : State) (c : Caller) : (s.issue c).phase = s.phase := rfl
@[simp] theorem issue_cmd (s : State) (c : Caller) : (s.issue c).cmd = s.cmd := rfl
@[simp] theorem issue_period (s : State) (c : Caller) : (s.issue c).period = s.period := rfl
@[simp] theorem issue_repLeft (s : State) (c : Caller) : (s.issue c).repLeft = s.repLeft := rfl
@[simp] theorem issue_acc (s : State) (c : Caller) : (s.issue c).acc = s.acc := rfl
@[simp] theorem issue_work (s : State) (c : Caller) : (s.issue c).work = s.work := rfl
@[simp] theorem issue_sym (s : State) (c : Caller) : (s.issue c).sym = s.sym := rfl
@[simp] theorem issue_symIdx (s : State) (c : Caller) : (s.issue c).symIdx = s.symIdx := rfl
@[simp] theorem issue_stepIdx (s : State) (c : Caller) : (s.issue c).stepIdx = s.stepIdx := rfl
@[simp] theorem issue_holding (s : State) (c : Caller) : (s.issue c).holding = s.holding := rfl
@[simp] theorem issue_holdNom (s : State) (c : Caller) : (s.issue c).holdNom = s.holdNom := rfl
@[simp] theorem issue_writer (s : State) (c : Caller) : (s.issue c).writer = s.writer := rfl
@[simp] theorem issue_line (s : State) (c : Caller) : (s.issue c).line = s.line := rfl
@[simp] theorem issue_await (s : State) (c : Caller) : (s.issue c).await = awaitInsert c s.await := rfl
@[simp] theorem issue_trace (s : State) (c : Caller) : (s.issue c).trace = s.trace := rfl
@[simp] theorem issue_now (s : State) (c : Caller) : (s.issue c).now = s.now := rfl
@[simp] theorem issue_faults (s : State) (c : Caller) : (s.issue c).faults = s.faults := rfl
@[simp] theorem issue_responses (s : State) (c : Caller) : (s.issue c).responses = s.responses := rfl
@[simp] theorem issue_schedule (s : State) (c : Caller) : (s.issue c).schedule = s.schedule := rfl
@[simp] theorem issue_draws (s : State) (c : Caller) : (s.issue c).draws = s.draws := rfl

/-! `respond` -/

@[simp] theorem respond_life (s : State) (c : Caller) (st : Status) (v : BitVec 32) :
    (s.respond c st v).life = s.life := rfl
@[simp] theorem respond_lineOwned (s : State) (c : Caller) (st : Status) (v : BitVec 32) :
    (s.respond c st v).lineOwned = s.lineOwned := rfl
@[simp] theorem respond_openCount (s : State) (c : Caller) (st : Status) (v : BitVec 32) :
    (s.respond c st v).openCount = s.openCount := rfl
@[simp] theorem respond_phase (s : State) (c : Caller) (st : Status) (v : BitVec 32) :
    (s.respond c st v).phase = s.phase := rfl
@[simp] theorem respond_cmd (s : State) (c : Caller) (st : Status) (v : BitVec 32) :
    (s.respond c st v).cmd = s.cmd := rfl
@[simp] theorem respond_period (s : State) (c : Caller) (st : Status) (v : BitVec 32) :
    (s.respond c st v).period = s.period := rfl
@[simp] theorem respond_repLeft (s : State) (c : Caller) (st : Status) (v : BitVec 32) :
    (s.respond c st v).repLeft = s.repLeft := rfl
@[simp] theorem respond_acc (s : State) (c : Caller) (st : Status) (v : BitVec 32) :
    (s.respond c st v).acc = s.acc := rfl
@[simp] theorem respond_work (s : State) (c : Caller) (st : Status) (v : BitVec 32) :
    (s.respond c st v).work = s.work := rfl
@[simp] theorem respond_sym (s : State) (c : Caller) (st : Status) (v : BitVec 32) :
    (s.respond c st v).sym = s.sym := rfl
@[simp] theorem respond_symIdx (s : State) (c : Caller) (st : Status) (v : BitVec 32) :
    (s.respond c st v).symIdx = s.symIdx := rfl
@[simp] theorem respond_stepIdx (s : State) (c : Caller) (st : Status) (v : BitVec 32) :
    (s.respond c st v).stepIdx = s.stepIdx := rfl
@[simp] theorem respond_holding (s : State) (c : Caller) (st : Status) (v : BitVec 32) :
    (s.respond c st v).holding = s.holding := rfl
@[simp] theorem respond_holdNom (s : State) (c : Caller) (st : Status) (v : BitVec 32) :
    (s.respond c st v).holdNom = s.holdNom := rfl
@[simp] theorem respond_writer (s : State) (c : Caller) (st : Status) (v : BitVec 32) :
    (s.respond c st v).writer = s.writer := rfl
@[simp] theorem respond_line (s : State) (c : Caller) (st : Status) (v : BitVec 32) :
    (s.respond c st v).line = s.line := rfl
@[simp] theorem respond_await (s : State) (c : Caller) (st : Status) (v : BitVec 32) :
    (s.respond c st v).await = awaitErase c s.await := rfl
@[simp] theorem respond_trace (s : State) (c : Caller) (st : Status) (v : BitVec 32) :
    (s.respond c st v).trace = s.trace := rfl
@[simp] theorem respond_now (s : State) (c : Caller) (st : Status) (v : BitVec 32) :
    (s.respond c st v).now = s.now := rfl
@[simp] theorem respond_faults (s : State) (c : Caller) (st : Status) (v : BitVec 32) :
    (s.respond c st v).faults = s.faults := rfl
@[simp] theorem respond_responses (s : State) (c : Caller) (st : Status) (v : BitVec 32) :
    (s.respond c st v).responses = s.responses ++ [⟨c, st, v⟩] := rfl
@[simp] theorem respond_schedule (s : State) (c : Caller) (st : Status) (v : BitVec 32) :
    (s.respond c st v).schedule = s.schedule := rfl
@[simp] theorem respond_draws (s : State) (c : Caller) (st : Status) (v : BitVec 32) :
    (s.respond c st v).draws = s.draws := rfl

/-! `raiseFault` -/

@[simp] theorem raiseFault_life (s : State) (code : FaultCode) (q : Cause) :
    (s.raiseFault code q).life = s.life := rfl
@[simp] theorem raiseFault_lineOwned (s : State) (code : FaultCode) (q : Cause) :
    (s.raiseFault code q).lineOwned = s.lineOwned := rfl
@[simp] theorem raiseFault_openCount (s : State) (code : FaultCode) (q : Cause) :
    (s.raiseFault code q).openCount = s.openCount := rfl
@[simp] theorem raiseFault_phase (s : State) (code : FaultCode) (q : Cause) :
    (s.raiseFault code q).phase = s.phase := rfl
@[simp] theorem raiseFault_cmd (s : State) (code : FaultCode) (q : Cause) : (s.raiseFault code q).cmd = s.cmd := rfl
@[simp] theorem raiseFault_period (s : State) (code : FaultCode) (q : Cause) :
    (s.raiseFault code q).period = s.period := rfl
@[simp] theorem raiseFault_repLeft (s : State) (code : FaultCode) (q : Cause) :
    (s.raiseFault code q).repLeft = s.repLeft := rfl
@[simp] theorem raiseFault_acc (s : State) (code : FaultCode) (q : Cause) : (s.raiseFault code q).acc = s.acc := rfl
@[simp] theorem raiseFault_work (s : State) (code : FaultCode) (q : Cause) :
    (s.raiseFault code q).work = s.work := rfl
@[simp] theorem raiseFault_sym (s : State) (code : FaultCode) (q : Cause) : (s.raiseFault code q).sym = s.sym := rfl
@[simp] theorem raiseFault_symIdx (s : State) (code : FaultCode) (q : Cause) :
    (s.raiseFault code q).symIdx = s.symIdx := rfl
@[simp] theorem raiseFault_stepIdx (s : State) (code : FaultCode) (q : Cause) :
    (s.raiseFault code q).stepIdx = s.stepIdx := rfl
@[simp] theorem raiseFault_holding (s : State) (code : FaultCode) (q : Cause) :
    (s.raiseFault code q).holding = s.holding := rfl
@[simp] theorem raiseFault_holdNom (s : State) (code : FaultCode) (q : Cause) :
    (s.raiseFault code q).holdNom = s.holdNom := rfl
@[simp] theorem raiseFault_writer (s : State) (code : FaultCode) (q : Cause) :
    (s.raiseFault code q).writer = s.writer := rfl
@[simp] theorem raiseFault_line (s : State) (code : FaultCode) (q : Cause) :
    (s.raiseFault code q).line = s.line := rfl
@[simp] theorem raiseFault_await (s : State) (code : FaultCode) (q : Cause) :
    (s.raiseFault code q).await = s.await := rfl
@[simp] theorem raiseFault_trace (s : State) (code : FaultCode) (q : Cause) :
    (s.raiseFault code q).trace = s.trace := rfl
@[simp] theorem raiseFault_now (s : State) (code : FaultCode) (q : Cause) : (s.raiseFault code q).now = s.now := rfl
@[simp] theorem raiseFault_faults (s : State) (code : FaultCode) (q : Cause) :
    (s.raiseFault code q).faults = s.faults ++ [⟨code, q, s.toBlock⟩] := rfl
@[simp] theorem raiseFault_responses (s : State) (code : FaultCode) (q : Cause) :
    (s.raiseFault code q).responses = s.responses := rfl
@[simp] theorem raiseFault_schedule (s : State) (code : FaultCode) (q : Cause) :
    (s.raiseFault code q).schedule = s.schedule := rfl
@[simp] theorem raiseFault_draws (s : State) (code : FaultCode) (q : Cause) :
    (s.raiseFault code q).draws = s.draws := rfl

/-! `setOpenCount` -/

@[simp] theorem setOpenCount_life (s : State) (v : Bool) : (s.setOpenCount v).life = s.life := rfl
@[simp] theorem setOpenCount_lineOwned (s : State) (v : Bool) : (s.setOpenCount v).lineOwned = s.lineOwned := rfl
@[simp] theorem setOpenCount_openCount (s : State) (v : Bool) : (s.setOpenCount v).openCount = .wrote v := rfl
@[simp] theorem setOpenCount_phase (s : State) (v : Bool) : (s.setOpenCount v).phase = s.phase := rfl
@[simp] theorem setOpenCount_cmd (s : State) (v : Bool) : (s.setOpenCount v).cmd = s.cmd := rfl
@[simp] theorem setOpenCount_period (s : State) (v : Bool) : (s.setOpenCount v).period = s.period := rfl
@[simp] theorem setOpenCount_repLeft (s : State) (v : Bool) : (s.setOpenCount v).repLeft = s.repLeft := rfl
@[simp] theorem setOpenCount_acc (s : State) (v : Bool) : (s.setOpenCount v).acc = s.acc := rfl
@[simp] theorem setOpenCount_work (s : State) (v : Bool) : (s.setOpenCount v).work = s.work := rfl
@[simp] theorem setOpenCount_sym (s : State) (v : Bool) : (s.setOpenCount v).sym = s.sym := rfl
@[simp] theorem setOpenCount_symIdx (s : State) (v : Bool) : (s.setOpenCount v).symIdx = s.symIdx := rfl
@[simp] theorem setOpenCount_stepIdx (s : State) (v : Bool) : (s.setOpenCount v).stepIdx = s.stepIdx := rfl
@[simp] theorem setOpenCount_holding (s : State) (v : Bool) : (s.setOpenCount v).holding = s.holding := rfl
@[simp] theorem setOpenCount_holdNom (s : State) (v : Bool) : (s.setOpenCount v).holdNom = s.holdNom := rfl
@[simp] theorem setOpenCount_writer (s : State) (v : Bool) : (s.setOpenCount v).writer = s.writer := rfl
@[simp] theorem setOpenCount_line (s : State) (v : Bool) : (s.setOpenCount v).line = s.line := rfl
@[simp] theorem setOpenCount_await (s : State) (v : Bool) : (s.setOpenCount v).await = s.await := rfl
@[simp] theorem setOpenCount_trace (s : State) (v : Bool) : (s.setOpenCount v).trace = s.trace := rfl
@[simp] theorem setOpenCount_now (s : State) (v : Bool) : (s.setOpenCount v).now = s.now := rfl
@[simp] theorem setOpenCount_faults (s : State) (v : Bool) : (s.setOpenCount v).faults = s.faults := rfl
@[simp] theorem setOpenCount_responses (s : State) (v : Bool) : (s.setOpenCount v).responses = s.responses := rfl
@[simp] theorem setOpenCount_schedule (s : State) (v : Bool) : (s.setOpenCount v).schedule = s.schedule := rfl
@[simp] theorem setOpenCount_draws (s : State) (v : Bool) : (s.setOpenCount v).draws = s.draws := rfl

/-! `becomeReady` -/

@[simp] theorem becomeReady_life (s : State) : (s.becomeReady).life = .ready := rfl
@[simp] theorem becomeReady_lineOwned (s : State) : (s.becomeReady).lineOwned = true := rfl
@[simp] theorem becomeReady_openCount (s : State) : (s.becomeReady).openCount = .wrote false := rfl
@[simp] theorem becomeReady_phase (s : State) : (s.becomeReady).phase = .wrote .idle := rfl
@[simp] theorem becomeReady_cmd (s : State) : (s.becomeReady).cmd = s.cmd := rfl
@[simp] theorem becomeReady_period (s : State) : (s.becomeReady).period = s.period := rfl
@[simp] theorem becomeReady_repLeft (s : State) : (s.becomeReady).repLeft = s.repLeft := rfl
@[simp] theorem becomeReady_acc (s : State) : (s.becomeReady).acc = s.acc := rfl
@[simp] theorem becomeReady_work (s : State) : (s.becomeReady).work = s.work := rfl
@[simp] theorem becomeReady_sym (s : State) : (s.becomeReady).sym = s.sym := rfl
@[simp] theorem becomeReady_symIdx (s : State) : (s.becomeReady).symIdx = s.symIdx := rfl
@[simp] theorem becomeReady_stepIdx (s : State) : (s.becomeReady).stepIdx = s.stepIdx := rfl
@[simp] theorem becomeReady_holding (s : State) : (s.becomeReady).holding = .wrote false := rfl
@[simp] theorem becomeReady_holdNom (s : State) : (s.becomeReady).holdNom = s.holdNom := rfl
@[simp] theorem becomeReady_writer (s : State) : (s.becomeReady).writer = .wrote none := rfl
@[simp] theorem becomeReady_line (s : State) : (s.becomeReady).line = s.line := rfl
@[simp] theorem becomeReady_await (s : State) : (s.becomeReady).await = s.await := rfl
@[simp] theorem becomeReady_trace (s : State) : (s.becomeReady).trace = s.trace := rfl
@[simp] theorem becomeReady_now (s : State) : (s.becomeReady).now = s.now := rfl
@[simp] theorem becomeReady_faults (s : State) : (s.becomeReady).faults = s.faults := rfl
@[simp] theorem becomeReady_responses (s : State) : (s.becomeReady).responses = s.responses := rfl
@[simp] theorem becomeReady_schedule (s : State) : (s.becomeReady).schedule = s.schedule := rfl
@[simp] theorem becomeReady_draws (s : State) : (s.becomeReady).draws = s.draws := rfl

/-! `becomeFailed` -/

@[simp] theorem becomeFailed_life (s : State) : (s.becomeFailed).life = .failed := rfl
@[simp] theorem becomeFailed_lineOwned (s : State) : (s.becomeFailed).lineOwned = s.lineOwned := rfl
@[simp] theorem becomeFailed_openCount (s : State) : (s.becomeFailed).openCount = s.openCount := rfl
@[simp] theorem becomeFailed_phase (s : State) : (s.becomeFailed).phase = s.phase := rfl
@[simp] theorem becomeFailed_cmd (s : State) : (s.becomeFailed).cmd = s.cmd := rfl
@[simp] theorem becomeFailed_period (s : State) : (s.becomeFailed).period = s.period := rfl
@[simp] theorem becomeFailed_repLeft (s : State) : (s.becomeFailed).repLeft = s.repLeft := rfl
@[simp] theorem becomeFailed_acc (s : State) : (s.becomeFailed).acc = s.acc := rfl
@[simp] theorem becomeFailed_work (s : State) : (s.becomeFailed).work = s.work := rfl
@[simp] theorem becomeFailed_sym (s : State) : (s.becomeFailed).sym = s.sym := rfl
@[simp] theorem becomeFailed_symIdx (s : State) : (s.becomeFailed).symIdx = s.symIdx := rfl
@[simp] theorem becomeFailed_stepIdx (s : State) : (s.becomeFailed).stepIdx = s.stepIdx := rfl
@[simp] theorem becomeFailed_holding (s : State) : (s.becomeFailed).holding = s.holding := rfl
@[simp] theorem becomeFailed_holdNom (s : State) : (s.becomeFailed).holdNom = s.holdNom := rfl
@[simp] theorem becomeFailed_writer (s : State) : (s.becomeFailed).writer = s.writer := rfl
@[simp] theorem becomeFailed_line (s : State) : (s.becomeFailed).line = s.line := rfl
@[simp] theorem becomeFailed_await (s : State) : (s.becomeFailed).await = s.await := rfl
@[simp] theorem becomeFailed_trace (s : State) : (s.becomeFailed).trace = s.trace := rfl
@[simp] theorem becomeFailed_now (s : State) : (s.becomeFailed).now = s.now := rfl
@[simp] theorem becomeFailed_faults (s : State) : (s.becomeFailed).faults = s.faults := rfl
@[simp] theorem becomeFailed_responses (s : State) : (s.becomeFailed).responses = s.responses := rfl
@[simp] theorem becomeFailed_schedule (s : State) : (s.becomeFailed).schedule = s.schedule := rfl
@[simp] theorem becomeFailed_draws (s : State) : (s.becomeFailed).draws = s.draws := rfl

/-! `releaseLine` -/

@[simp] theorem releaseLine_life (s : State) : (s.releaseLine).life = .released := rfl
@[simp] theorem releaseLine_lineOwned (s : State) : (s.releaseLine).lineOwned = false := rfl
@[simp] theorem releaseLine_openCount (s : State) : (s.releaseLine).openCount = s.openCount := rfl
@[simp] theorem releaseLine_phase (s : State) : (s.releaseLine).phase = s.phase := rfl
@[simp] theorem releaseLine_cmd (s : State) : (s.releaseLine).cmd = s.cmd := rfl
@[simp] theorem releaseLine_period (s : State) : (s.releaseLine).period = s.period := rfl
@[simp] theorem releaseLine_repLeft (s : State) : (s.releaseLine).repLeft = s.repLeft := rfl
@[simp] theorem releaseLine_acc (s : State) : (s.releaseLine).acc = s.acc := rfl
@[simp] theorem releaseLine_work (s : State) : (s.releaseLine).work = s.work := rfl
@[simp] theorem releaseLine_sym (s : State) : (s.releaseLine).sym = s.sym := rfl
@[simp] theorem releaseLine_symIdx (s : State) : (s.releaseLine).symIdx = s.symIdx := rfl
@[simp] theorem releaseLine_stepIdx (s : State) : (s.releaseLine).stepIdx = s.stepIdx := rfl
@[simp] theorem releaseLine_holding (s : State) : (s.releaseLine).holding = s.holding := rfl
@[simp] theorem releaseLine_holdNom (s : State) : (s.releaseLine).holdNom = s.holdNom := rfl
@[simp] theorem releaseLine_writer (s : State) : (s.releaseLine).writer = s.writer := rfl
@[simp] theorem releaseLine_line (s : State) : (s.releaseLine).line = s.line := rfl
@[simp] theorem releaseLine_await (s : State) : (s.releaseLine).await = s.await := rfl
@[simp] theorem releaseLine_trace (s : State) : (s.releaseLine).trace = s.trace := rfl
@[simp] theorem releaseLine_now (s : State) : (s.releaseLine).now = s.now := rfl
@[simp] theorem releaseLine_faults (s : State) : (s.releaseLine).faults = s.faults := rfl
@[simp] theorem releaseLine_responses (s : State) : (s.releaseLine).responses = s.responses := rfl
@[simp] theorem releaseLine_schedule (s : State) : (s.releaseLine).schedule = s.schedule := rfl
@[simp] theorem releaseLine_draws (s : State) : (s.releaseLine).draws = s.draws := rfl

/-! `latch` -/

@[simp] theorem latch_life (s : State) (c : Caller) (w : Word) : (s.latch c w).life = s.life := rfl
@[simp] theorem latch_lineOwned (s : State) (c : Caller) (w : Word) : (s.latch c w).lineOwned = s.lineOwned := rfl
@[simp] theorem latch_openCount (s : State) (c : Caller) (w : Word) : (s.latch c w).openCount = s.openCount := rfl
@[simp] theorem latch_phase (s : State) (c : Caller) (w : Word) : (s.latch c w).phase = .wrote .encode := rfl
@[simp] theorem latch_cmd (s : State) (c : Caller) (w : Word) : (s.latch c w).cmd = .wrote w := rfl
@[simp] theorem latch_period (s : State) (c : Caller) (w : Word) : (s.latch c w).period = s.period := rfl
@[simp] theorem latch_repLeft (s : State) (c : Caller) (w : Word) : (s.latch c w).repLeft = s.repLeft := rfl
@[simp] theorem latch_acc (s : State) (c : Caller) (w : Word) : (s.latch c w).acc = s.acc := rfl
@[simp] theorem latch_work (s : State) (c : Caller) (w : Word) : (s.latch c w).work = s.work := rfl
@[simp] theorem latch_sym (s : State) (c : Caller) (w : Word) : (s.latch c w).sym = s.sym := rfl
@[simp] theorem latch_symIdx (s : State) (c : Caller) (w : Word) : (s.latch c w).symIdx = s.symIdx := rfl
@[simp] theorem latch_stepIdx (s : State) (c : Caller) (w : Word) : (s.latch c w).stepIdx = s.stepIdx := rfl
@[simp] theorem latch_holding (s : State) (c : Caller) (w : Word) : (s.latch c w).holding = s.holding := rfl
@[simp] theorem latch_holdNom (s : State) (c : Caller) (w : Word) : (s.latch c w).holdNom = s.holdNom := rfl
@[simp] theorem latch_writer (s : State) (c : Caller) (w : Word) : (s.latch c w).writer = .wrote (some c) := rfl
@[simp] theorem latch_line (s : State) (c : Caller) (w : Word) : (s.latch c w).line = s.line := rfl
@[simp] theorem latch_await (s : State) (c : Caller) (w : Word) : (s.latch c w).await = s.await := rfl
@[simp] theorem latch_trace (s : State) (c : Caller) (w : Word) : (s.latch c w).trace = s.trace := rfl
@[simp] theorem latch_now (s : State) (c : Caller) (w : Word) : (s.latch c w).now = s.now := rfl
@[simp] theorem latch_faults (s : State) (c : Caller) (w : Word) : (s.latch c w).faults = s.faults := rfl
@[simp] theorem latch_responses (s : State) (c : Caller) (w : Word) : (s.latch c w).responses = s.responses := rfl
@[simp] theorem latch_schedule (s : State) (c : Caller) (w : Word) : (s.latch c w).schedule = s.schedule := rfl
@[simp] theorem latch_draws (s : State) (c : Caller) (w : Word) : (s.latch c w).draws = s.draws := rfl

/-! `loadTelegram` -/

@[simp] theorem loadTelegram_life (s : State) (w : Word) : (s.loadTelegram w).life = s.life := rfl
@[simp] theorem loadTelegram_lineOwned (s : State) (w : Word) : (s.loadTelegram w).lineOwned = s.lineOwned := rfl
@[simp] theorem loadTelegram_openCount (s : State) (w : Word) : (s.loadTelegram w).openCount = s.openCount := rfl
@[simp] theorem loadTelegram_phase (s : State) (w : Word) : (s.loadTelegram w).phase = .wrote .send := rfl
@[simp] theorem loadTelegram_cmd (s : State) (w : Word) : (s.loadTelegram w).cmd = s.cmd := rfl
@[simp] theorem loadTelegram_period (s : State) (w : Word) : (s.loadTelegram w).period = .wrote (period w) := rfl
@[simp] theorem loadTelegram_repLeft (s : State) (w : Word) : (s.loadTelegram w).repLeft = .wrote (repeats w) := rfl
@[simp] theorem loadTelegram_acc (s : State) (w : Word) :
    (s.loadTelegram w).acc = .wrote (encode12 (payload w)) := rfl
@[simp] theorem loadTelegram_work (s : State) (w : Word) :
    (s.loadTelegram w).work = .wrote (encode12 (payload w)) := rfl
@[simp] theorem loadTelegram_sym (s : State) (w : Word) : (s.loadTelegram w).sym = s.sym := rfl
@[simp] theorem loadTelegram_symIdx (s : State) (w : Word) : (s.loadTelegram w).symIdx = .wrote 0 := rfl
@[simp] theorem loadTelegram_stepIdx (s : State) (w : Word) : (s.loadTelegram w).stepIdx = .wrote 0 := rfl
@[simp] theorem loadTelegram_holding (s : State) (w : Word) : (s.loadTelegram w).holding = .wrote false := rfl
@[simp] theorem loadTelegram_holdNom (s : State) (w : Word) : (s.loadTelegram w).holdNom = s.holdNom := rfl
@[simp] theorem loadTelegram_writer (s : State) (w : Word) : (s.loadTelegram w).writer = s.writer := rfl
@[simp] theorem loadTelegram_line (s : State) (w : Word) : (s.loadTelegram w).line = s.line := rfl
@[simp] theorem loadTelegram_await (s : State) (w : Word) : (s.loadTelegram w).await = s.await := rfl
@[simp] theorem loadTelegram_trace (s : State) (w : Word) : (s.loadTelegram w).trace = s.trace := rfl
@[simp] theorem loadTelegram_now (s : State) (w : Word) : (s.loadTelegram w).now = s.now := rfl
@[simp] theorem loadTelegram_faults (s : State) (w : Word) : (s.loadTelegram w).faults = s.faults := rfl
@[simp] theorem loadTelegram_responses (s : State) (w : Word) : (s.loadTelegram w).responses = s.responses := rfl
@[simp] theorem loadTelegram_schedule (s : State) (w : Word) : (s.loadTelegram w).schedule = s.schedule := rfl
@[simp] theorem loadTelegram_draws (s : State) (w : Word) : (s.loadTelegram w).draws = s.draws := rfl

/-! `takeSlot` -/

@[simp] theorem takeSlot_life (s : State) : (s.takeSlot).life = s.life := rfl
@[simp] theorem takeSlot_lineOwned (s : State) : (s.takeSlot).lineOwned = s.lineOwned := rfl
@[simp] theorem takeSlot_openCount (s : State) : (s.takeSlot).openCount = s.openCount := rfl
@[simp] theorem takeSlot_phase (s : State) : (s.takeSlot).phase = s.phase := rfl
@[simp] theorem takeSlot_cmd (s : State) : (s.takeSlot).cmd = s.cmd := rfl
@[simp] theorem takeSlot_period (s : State) : (s.takeSlot).period = s.period := rfl
@[simp] theorem takeSlot_repLeft (s : State) : (s.takeSlot).repLeft = s.repLeft := rfl
@[simp] theorem takeSlot_acc (s : State) : (s.takeSlot).acc = s.acc := rfl
@[simp] theorem takeSlot_work (s : State) : (s.takeSlot).work = .wrote (s.work.held >>> 2) := rfl
@[simp] theorem takeSlot_sym (s : State) : (s.takeSlot).sym = .wrote (slot s.work.held 0) := rfl
@[simp] theorem takeSlot_symIdx (s : State) : (s.takeSlot).symIdx = s.symIdx := rfl
@[simp] theorem takeSlot_stepIdx (s : State) : (s.takeSlot).stepIdx = s.stepIdx := rfl
@[simp] theorem takeSlot_holding (s : State) : (s.takeSlot).holding = s.holding := rfl
@[simp] theorem takeSlot_holdNom (s : State) : (s.takeSlot).holdNom = s.holdNom := rfl
@[simp] theorem takeSlot_writer (s : State) : (s.takeSlot).writer = s.writer := rfl
@[simp] theorem takeSlot_line (s : State) : (s.takeSlot).line = s.line := rfl
@[simp] theorem takeSlot_await (s : State) : (s.takeSlot).await = s.await := rfl
@[simp] theorem takeSlot_trace (s : State) : (s.takeSlot).trace = s.trace := rfl
@[simp] theorem takeSlot_now (s : State) : (s.takeSlot).now = s.now := rfl
@[simp] theorem takeSlot_faults (s : State) : (s.takeSlot).faults = s.faults := rfl
@[simp] theorem takeSlot_responses (s : State) : (s.takeSlot).responses = s.responses := rfl
@[simp] theorem takeSlot_schedule (s : State) : (s.takeSlot).schedule = s.schedule := rfl
@[simp] theorem takeSlot_draws (s : State) : (s.takeSlot).draws = s.draws := rfl

/-! `drive` -/

@[simp] theorem drive_life (s : State) (high : Bool) (m : Nat) : (s.drive high m).life = s.life := rfl
@[simp] theorem drive_lineOwned (s : State) (high : Bool) (m : Nat) : (s.drive high m).lineOwned = s.lineOwned := rfl
@[simp] theorem drive_openCount (s : State) (high : Bool) (m : Nat) : (s.drive high m).openCount = s.openCount := rfl
@[simp] theorem drive_phase (s : State) (high : Bool) (m : Nat) : (s.drive high m).phase = s.phase := rfl
@[simp] theorem drive_cmd (s : State) (high : Bool) (m : Nat) : (s.drive high m).cmd = s.cmd := rfl
@[simp] theorem drive_period (s : State) (high : Bool) (m : Nat) : (s.drive high m).period = s.period := rfl
@[simp] theorem drive_repLeft (s : State) (high : Bool) (m : Nat) : (s.drive high m).repLeft = s.repLeft := rfl
@[simp] theorem drive_acc (s : State) (high : Bool) (m : Nat) : (s.drive high m).acc = s.acc := rfl
@[simp] theorem drive_work (s : State) (high : Bool) (m : Nat) : (s.drive high m).work = s.work := rfl
@[simp] theorem drive_sym (s : State) (high : Bool) (m : Nat) : (s.drive high m).sym = s.sym := rfl
@[simp] theorem drive_symIdx (s : State) (high : Bool) (m : Nat) : (s.drive high m).symIdx = s.symIdx := rfl
@[simp] theorem drive_stepIdx (s : State) (high : Bool) (m : Nat) : (s.drive high m).stepIdx = s.stepIdx := rfl
@[simp] theorem drive_holding (s : State) (high : Bool) (m : Nat) : (s.drive high m).holding = .wrote true := rfl
@[simp] theorem drive_holdNom (s : State) (high : Bool) (m : Nat) :
    (s.drive high m).holdNom = .wrote (BitVec.ofNat 14 (nominalHold m s.period.held)) := rfl
@[simp] theorem drive_writer (s : State) (high : Bool) (m : Nat) : (s.drive high m).writer = s.writer := rfl
@[simp] theorem drive_line (s : State) (high : Bool) (m : Nat) : (s.drive high m).line = .level high := rfl
@[simp] theorem drive_await (s : State) (high : Bool) (m : Nat) : (s.drive high m).await = s.await := rfl
@[simp] theorem drive_trace (s : State) (high : Bool) (m : Nat) :
    (s.drive high m).trace = s.trace ++ [⟨high, nominalHold m s.period.held, none⟩] := rfl
@[simp] theorem drive_now (s : State) (high : Bool) (m : Nat) : (s.drive high m).now = s.now := rfl
@[simp] theorem drive_faults (s : State) (high : Bool) (m : Nat) : (s.drive high m).faults = s.faults := rfl
@[simp] theorem drive_responses (s : State) (high : Bool) (m : Nat) : (s.drive high m).responses = s.responses := rfl
@[simp] theorem drive_schedule (s : State) (high : Bool) (m : Nat) : (s.drive high m).schedule = s.schedule := rfl
@[simp] theorem drive_draws (s : State) (high : Bool) (m : Nat) : (s.drive high m).draws = s.draws := rfl

/-! `elapse` -/

@[simp] theorem elapse_life (s : State) (d : Nat) : (s.elapse d).life = s.life := rfl
@[simp] theorem elapse_lineOwned (s : State) (d : Nat) : (s.elapse d).lineOwned = s.lineOwned := rfl
@[simp] theorem elapse_openCount (s : State) (d : Nat) : (s.elapse d).openCount = s.openCount := rfl
@[simp] theorem elapse_phase (s : State) (d : Nat) : (s.elapse d).phase = s.phase := rfl
@[simp] theorem elapse_cmd (s : State) (d : Nat) : (s.elapse d).cmd = s.cmd := rfl
@[simp] theorem elapse_period (s : State) (d : Nat) : (s.elapse d).period = s.period := rfl
@[simp] theorem elapse_repLeft (s : State) (d : Nat) : (s.elapse d).repLeft = s.repLeft := rfl
@[simp] theorem elapse_acc (s : State) (d : Nat) : (s.elapse d).acc = s.acc := rfl
@[simp] theorem elapse_work (s : State) (d : Nat) : (s.elapse d).work = s.work := rfl
@[simp] theorem elapse_sym (s : State) (d : Nat) : (s.elapse d).sym = s.sym := rfl
@[simp] theorem elapse_symIdx (s : State) (d : Nat) : (s.elapse d).symIdx = s.symIdx := rfl
@[simp] theorem elapse_stepIdx (s : State) (d : Nat) : (s.elapse d).stepIdx = s.stepIdx := rfl
@[simp] theorem elapse_holding (s : State) (d : Nat) : (s.elapse d).holding = .wrote false := rfl
@[simp] theorem elapse_holdNom (s : State) (d : Nat) : (s.elapse d).holdNom = s.holdNom := rfl
@[simp] theorem elapse_writer (s : State) (d : Nat) : (s.elapse d).writer = s.writer := rfl
@[simp] theorem elapse_line (s : State) (d : Nat) : (s.elapse d).line = s.line := rfl
@[simp] theorem elapse_await (s : State) (d : Nat) : (s.elapse d).await = s.await := rfl
@[simp] theorem elapse_trace (s : State) (d : Nat) : (s.elapse d).trace = setLastActual d s.trace := rfl
@[simp] theorem elapse_now (s : State) (d : Nat) : (s.elapse d).now = s.now + d := rfl
@[simp] theorem elapse_faults (s : State) (d : Nat) : (s.elapse d).faults = s.faults := rfl
@[simp] theorem elapse_responses (s : State) (d : Nat) : (s.elapse d).responses = s.responses := rfl
@[simp] theorem elapse_schedule (s : State) (d : Nat) : (s.elapse d).schedule = s.schedule := rfl
@[simp] theorem elapse_draws (s : State) (d : Nat) : (s.elapse d).draws = s.draws + 1 := rfl

/-! `setPosition` -/

@[simp] theorem setPosition_life (s : State) (idx : BitVec 4) (k : BitVec 2) :
    (s.setPosition idx k).life = s.life := rfl
@[simp] theorem setPosition_lineOwned (s : State) (idx : BitVec 4) (k : BitVec 2) :
    (s.setPosition idx k).lineOwned = s.lineOwned := rfl
@[simp] theorem setPosition_openCount (s : State) (idx : BitVec 4) (k : BitVec 2) :
    (s.setPosition idx k).openCount = s.openCount := rfl
@[simp] theorem setPosition_phase (s : State) (idx : BitVec 4) (k : BitVec 2) :
    (s.setPosition idx k).phase = s.phase := rfl
@[simp] theorem setPosition_cmd (s : State) (idx : BitVec 4) (k : BitVec 2) : (s.setPosition idx k).cmd = s.cmd := rfl
@[simp] theorem setPosition_period (s : State) (idx : BitVec 4) (k : BitVec 2) :
    (s.setPosition idx k).period = s.period := rfl
@[simp] theorem setPosition_repLeft (s : State) (idx : BitVec 4) (k : BitVec 2) :
    (s.setPosition idx k).repLeft = s.repLeft := rfl
@[simp] theorem setPosition_acc (s : State) (idx : BitVec 4) (k : BitVec 2) : (s.setPosition idx k).acc = s.acc := rfl
@[simp] theorem setPosition_work (s : State) (idx : BitVec 4) (k : BitVec 2) :
    (s.setPosition idx k).work = s.work := rfl
@[simp] theorem setPosition_sym (s : State) (idx : BitVec 4) (k : BitVec 2) : (s.setPosition idx k).sym = s.sym := rfl
@[simp] theorem setPosition_symIdx (s : State) (idx : BitVec 4) (k : BitVec 2) :
    (s.setPosition idx k).symIdx = .wrote idx := rfl
@[simp] theorem setPosition_stepIdx (s : State) (idx : BitVec 4) (k : BitVec 2) :
    (s.setPosition idx k).stepIdx = .wrote k := rfl
@[simp] theorem setPosition_holding (s : State) (idx : BitVec 4) (k : BitVec 2) :
    (s.setPosition idx k).holding = s.holding := rfl
@[simp] theorem setPosition_holdNom (s : State) (idx : BitVec 4) (k : BitVec 2) :
    (s.setPosition idx k).holdNom = s.holdNom := rfl
@[simp] theorem setPosition_writer (s : State) (idx : BitVec 4) (k : BitVec 2) :
    (s.setPosition idx k).writer = s.writer := rfl
@[simp] theorem setPosition_line (s : State) (idx : BitVec 4) (k : BitVec 2) :
    (s.setPosition idx k).line = s.line := rfl
@[simp] theorem setPosition_await (s : State) (idx : BitVec 4) (k : BitVec 2) :
    (s.setPosition idx k).await = s.await := rfl
@[simp] theorem setPosition_trace (s : State) (idx : BitVec 4) (k : BitVec 2) :
    (s.setPosition idx k).trace = s.trace := rfl
@[simp] theorem setPosition_now (s : State) (idx : BitVec 4) (k : BitVec 2) : (s.setPosition idx k).now = s.now := rfl
@[simp] theorem setPosition_faults (s : State) (idx : BitVec 4) (k : BitVec 2) :
    (s.setPosition idx k).faults = s.faults := rfl
@[simp] theorem setPosition_responses (s : State) (idx : BitVec 4) (k : BitVec 2) :
    (s.setPosition idx k).responses = s.responses := rfl
@[simp] theorem setPosition_schedule (s : State) (idx : BitVec 4) (k : BitVec 2) :
    (s.setPosition idx k).schedule = s.schedule := rfl
@[simp] theorem setPosition_draws (s : State) (idx : BitVec 4) (k : BitVec 2) :
    (s.setPosition idx k).draws = s.draws := rfl

/-! `countFrame` -/

@[simp] theorem countFrame_life (s : State) : (s.countFrame).life = s.life := rfl
@[simp] theorem countFrame_lineOwned (s : State) : (s.countFrame).lineOwned = s.lineOwned := rfl
@[simp] theorem countFrame_openCount (s : State) : (s.countFrame).openCount = s.openCount := rfl
@[simp] theorem countFrame_phase (s : State) : (s.countFrame).phase = s.phase := rfl
@[simp] theorem countFrame_cmd (s : State) : (s.countFrame).cmd = s.cmd := rfl
@[simp] theorem countFrame_period (s : State) : (s.countFrame).period = s.period := rfl
@[simp] theorem countFrame_repLeft (s : State) : (s.countFrame).repLeft = .wrote (s.repLeft.held - 1) := rfl
@[simp] theorem countFrame_acc (s : State) : (s.countFrame).acc = s.acc := rfl
@[simp] theorem countFrame_work (s : State) : (s.countFrame).work = s.work := rfl
@[simp] theorem countFrame_sym (s : State) : (s.countFrame).sym = s.sym := rfl
@[simp] theorem countFrame_symIdx (s : State) : (s.countFrame).symIdx = s.symIdx := rfl
@[simp] theorem countFrame_stepIdx (s : State) : (s.countFrame).stepIdx = s.stepIdx := rfl
@[simp] theorem countFrame_holding (s : State) : (s.countFrame).holding = s.holding := rfl
@[simp] theorem countFrame_holdNom (s : State) : (s.countFrame).holdNom = s.holdNom := rfl
@[simp] theorem countFrame_writer (s : State) : (s.countFrame).writer = s.writer := rfl
@[simp] theorem countFrame_line (s : State) : (s.countFrame).line = s.line := rfl
@[simp] theorem countFrame_await (s : State) : (s.countFrame).await = s.await := rfl
@[simp] theorem countFrame_trace (s : State) : (s.countFrame).trace = s.trace := rfl
@[simp] theorem countFrame_now (s : State) : (s.countFrame).now = s.now := rfl
@[simp] theorem countFrame_faults (s : State) : (s.countFrame).faults = s.faults := rfl
@[simp] theorem countFrame_responses (s : State) : (s.countFrame).responses = s.responses := rfl
@[simp] theorem countFrame_schedule (s : State) : (s.countFrame).schedule = s.schedule := rfl
@[simp] theorem countFrame_draws (s : State) : (s.countFrame).draws = s.draws := rfl

/-! `reloadWork` -/

@[simp] theorem reloadWork_life (s : State) : (s.reloadWork).life = s.life := rfl
@[simp] theorem reloadWork_lineOwned (s : State) : (s.reloadWork).lineOwned = s.lineOwned := rfl
@[simp] theorem reloadWork_openCount (s : State) : (s.reloadWork).openCount = s.openCount := rfl
@[simp] theorem reloadWork_phase (s : State) : (s.reloadWork).phase = s.phase := rfl
@[simp] theorem reloadWork_cmd (s : State) : (s.reloadWork).cmd = s.cmd := rfl
@[simp] theorem reloadWork_period (s : State) : (s.reloadWork).period = s.period := rfl
@[simp] theorem reloadWork_repLeft (s : State) : (s.reloadWork).repLeft = s.repLeft := rfl
@[simp] theorem reloadWork_acc (s : State) : (s.reloadWork).acc = s.acc := rfl
@[simp] theorem reloadWork_work (s : State) : (s.reloadWork).work = .wrote s.acc.held := rfl
@[simp] theorem reloadWork_sym (s : State) : (s.reloadWork).sym = s.sym := rfl
@[simp] theorem reloadWork_symIdx (s : State) : (s.reloadWork).symIdx = s.symIdx := rfl
@[simp] theorem reloadWork_stepIdx (s : State) : (s.reloadWork).stepIdx = s.stepIdx := rfl
@[simp] theorem reloadWork_holding (s : State) : (s.reloadWork).holding = s.holding := rfl
@[simp] theorem reloadWork_holdNom (s : State) : (s.reloadWork).holdNom = s.holdNom := rfl
@[simp] theorem reloadWork_writer (s : State) : (s.reloadWork).writer = s.writer := rfl
@[simp] theorem reloadWork_line (s : State) : (s.reloadWork).line = s.line := rfl
@[simp] theorem reloadWork_await (s : State) : (s.reloadWork).await = s.await := rfl
@[simp] theorem reloadWork_trace (s : State) : (s.reloadWork).trace = s.trace := rfl
@[simp] theorem reloadWork_now (s : State) : (s.reloadWork).now = s.now := rfl
@[simp] theorem reloadWork_faults (s : State) : (s.reloadWork).faults = s.faults := rfl
@[simp] theorem reloadWork_responses (s : State) : (s.reloadWork).responses = s.responses := rfl
@[simp] theorem reloadWork_schedule (s : State) : (s.reloadWork).schedule = s.schedule := rfl
@[simp] theorem reloadWork_draws (s : State) : (s.reloadWork).draws = s.draws := rfl

/-! `goIdle` -/

@[simp] theorem goIdle_life (s : State) : (s.goIdle).life = s.life := rfl
@[simp] theorem goIdle_lineOwned (s : State) : (s.goIdle).lineOwned = s.lineOwned := rfl
@[simp] theorem goIdle_openCount (s : State) : (s.goIdle).openCount = s.openCount := rfl
@[simp] theorem goIdle_phase (s : State) : (s.goIdle).phase = .wrote .idle := rfl
@[simp] theorem goIdle_cmd (s : State) : (s.goIdle).cmd = s.cmd := rfl
@[simp] theorem goIdle_period (s : State) : (s.goIdle).period = s.period := rfl
@[simp] theorem goIdle_repLeft (s : State) : (s.goIdle).repLeft = s.repLeft := rfl
@[simp] theorem goIdle_acc (s : State) : (s.goIdle).acc = s.acc := rfl
@[simp] theorem goIdle_work (s : State) : (s.goIdle).work = s.work := rfl
@[simp] theorem goIdle_sym (s : State) : (s.goIdle).sym = s.sym := rfl
@[simp] theorem goIdle_symIdx (s : State) : (s.goIdle).symIdx = s.symIdx := rfl
@[simp] theorem goIdle_stepIdx (s : State) : (s.goIdle).stepIdx = s.stepIdx := rfl
@[simp] theorem goIdle_holding (s : State) : (s.goIdle).holding = s.holding := rfl
@[simp] theorem goIdle_holdNom (s : State) : (s.goIdle).holdNom = s.holdNom := rfl
@[simp] theorem goIdle_writer (s : State) : (s.goIdle).writer = .wrote none := rfl
@[simp] theorem goIdle_line (s : State) : (s.goIdle).line = s.line := rfl
@[simp] theorem goIdle_await (s : State) : (s.goIdle).await = s.await := rfl
@[simp] theorem goIdle_trace (s : State) : (s.goIdle).trace = s.trace := rfl
@[simp] theorem goIdle_now (s : State) : (s.goIdle).now = s.now := rfl
@[simp] theorem goIdle_faults (s : State) : (s.goIdle).faults = s.faults := rfl
@[simp] theorem goIdle_responses (s : State) : (s.goIdle).responses = s.responses := rfl
@[simp] theorem goIdle_schedule (s : State) : (s.goIdle).schedule = s.schedule := rfl
@[simp] theorem goIdle_draws (s : State) : (s.goIdle).draws = s.draws := rfl

/-! `dropMove` -/

@[simp] theorem dropMove_life (s : State) : (s.dropMove).life = s.life := rfl
@[simp] theorem dropMove_lineOwned (s : State) : (s.dropMove).lineOwned = s.lineOwned := rfl
@[simp] theorem dropMove_openCount (s : State) : (s.dropMove).openCount = s.openCount := rfl
@[simp] theorem dropMove_phase (s : State) : (s.dropMove).phase = s.phase := rfl
@[simp] theorem dropMove_cmd (s : State) : (s.dropMove).cmd = s.cmd := rfl
@[simp] theorem dropMove_period (s : State) : (s.dropMove).period = s.period := rfl
@[simp] theorem dropMove_repLeft (s : State) : (s.dropMove).repLeft = s.repLeft := rfl
@[simp] theorem dropMove_acc (s : State) : (s.dropMove).acc = s.acc := rfl
@[simp] theorem dropMove_work (s : State) : (s.dropMove).work = s.work := rfl
@[simp] theorem dropMove_sym (s : State) : (s.dropMove).sym = s.sym := rfl
@[simp] theorem dropMove_symIdx (s : State) : (s.dropMove).symIdx = s.symIdx := rfl
@[simp] theorem dropMove_stepIdx (s : State) : (s.dropMove).stepIdx = s.stepIdx := rfl
@[simp] theorem dropMove_holding (s : State) : (s.dropMove).holding = s.holding := rfl
@[simp] theorem dropMove_holdNom (s : State) : (s.dropMove).holdNom = s.holdNom := rfl
@[simp] theorem dropMove_writer (s : State) : (s.dropMove).writer = s.writer := rfl
@[simp] theorem dropMove_line (s : State) : (s.dropMove).line = s.line := rfl
@[simp] theorem dropMove_await (s : State) : (s.dropMove).await = s.await := rfl
@[simp] theorem dropMove_trace (s : State) : (s.dropMove).trace = s.trace := rfl
@[simp] theorem dropMove_now (s : State) : (s.dropMove).now = s.now := rfl
@[simp] theorem dropMove_faults (s : State) : (s.dropMove).faults = s.faults := rfl
@[simp] theorem dropMove_responses (s : State) : (s.dropMove).responses = s.responses := rfl
@[simp] theorem dropMove_schedule (s : State) : (s.dropMove).schedule = s.schedule.tail := rfl
@[simp] theorem dropMove_draws (s : State) : (s.dropMove).draws = s.draws := rfl

end Sys2Proof.Machine
end

