-- ==== Sys2Proof/Laws/Ops.lean ====
section
/-! SUPPORT. What each shared operation can do, said once: if it answers a next state, then one of these cases holds. -/

namespace Sys2Proof.Machine

@[simp] theorem faulted_eq_false {s : State} : s.faulted = false ↔ s.faults = [] := by
  simp [State.faulted]

@[simp] theorem faulted_eq_true {s : State} : s.faulted = true ↔ s.faults ≠ [] := by
  simp [State.faulted]

@[simp] theorem isReady_eq_true {s : State} : s.isReady = true ↔ s.life = .ready := by
  simp [State.isReady]

@[simp] theorem awaits_eq_true {s : State} {c : Caller} : s.awaits c = true ↔ c ∈ s.await := by
  simp [State.awaits]

@[simp] theorem awaits_eq_false {s : State} {c : Caller} : s.awaits c = false ↔ c ∉ s.await := by
  simp [State.awaits]

@[simp] theorem encodePending_eq_true {s : State} : s.encodePending = true ↔ s.phase = .wrote .encode := by
  simp [State.encodePending]

@[simp] theorem sendingWith_eq_true {s : State} {b : Bool} :
    s.sendingWith b = true ↔ s.phase = .wrote .send ∧ s.holding = .wrote b := by
  simp [State.sendingWith]

@[simp] theorem inFlight_eq_true {s : State} : s.inFlight = true ↔ s.phase.held ≠ .idle := by
  simp [State.inFlight]

@[simp] theorem inFlight_eq_false {s : State} : s.inFlight = false ↔ s.phase.held = .idle := by
  simp [State.inFlight]

theorem readsAll_next {marks : List Bool} {q : Cause} {s t : State} {k : Result}
    (h : readsAll marks q s k = .next t) :
    (∀ m ∈ marks, m = true) ∧ k = .next t ∨ t = s.raiseFault .unwritten q := by
  unfold readsAll at h
  split at h
  · rename_i hm; exact .inl ⟨by simpa using hm, h⟩
  · exact .inr (by simpa using h.symm)

/-- With every register written, the check passes. -/
theorem readsAll_of_written {marks : List Bool} (q : Cause) (s : State) (k : Result)
    (h : ∀ m ∈ marks, m = true) : readsAll marks q s k = k := by
  simp only [readsAll, List.all_eq_true.mpr h, if_true]

theorem atPort_next {c : Caller} {s t : State} {k : State → Result} (h : atPort c s k = .next t) :
    s.faults = [] ∧ c ∉ s.await ∧ k (s.issue c) = .next t := by
  unfold atPort at h
  split at h
  · simp at h
  · rename_i hf
    split at h
    · simp at h
    · rename_i ha
      exact ⟨by simpa using hf, by simpa using ha, h⟩

/-- A caller that may issue is served in the same step (R93). -/
theorem atPort_of_free {c : Caller} {s : State} (k : State → Result) (hf : s.faults = []) (hc : c ∉ s.await) :
    atPort c s k = k (s.issue c) := by
  have h1 : s.faulted = false := faulted_eq_false.mpr hf
  have h2 : s.awaits c = false := awaits_eq_false.mpr hc
  simp [atPort, h1, h2]

theorem whenReady_next {q : Cause} {s t : State} {k : Result} (h : whenReady q s k = .next t) :
    s.life = .ready ∧ k = .next t ∨ s.life ≠ .ready ∧ t = s.raiseFault .notReady q := by
  unfold whenReady at h
  split at h
  · rename_i hr; exact .inl ⟨by simpa using hr, h⟩
  · rename_i hr; exact .inr ⟨by simpa using hr, by simpa using h.symm⟩

theorem whenOpen_next {q : Cause} {s t : State} {k : Result} (h : whenOpen q s k = .next t) :
    (s.openCount = .wrote true ∧ k = .next t) ∨
      (s.openCount = .wrote false ∧ t = s.raiseFault .notOpen q) ∨ t = s.raiseFault .unwritten q := by
  rcases readsAll_next h with ⟨hw, hk⟩ | hk
  · have hw' : s.openCount.written = true := by simpa using hw
    split at hk
    · rename_i ho
      exact .inl ⟨(Reg.eq_wrote_iff _ _).mpr ⟨hw', ho⟩, hk⟩
    · rename_i ho
      exact .inr (.inl ⟨(Reg.eq_wrote_iff _ _).mpr ⟨hw', by simpa [State.sessionOpen] using ho⟩,
        by simpa using hk.symm⟩)
  · exact .inr (.inr hk)

theorem whenEmitting_next {s t : State} {k : Result} (h : whenEmitting s k = .next t) :
    s.faults = [] ∧ s.phase = .wrote .send ∧ s.holding = .wrote false ∧ s.lineOwned = true ∧
      ((s.symIdx.written = true ∧ s.stepIdx.written = true ∧ k = .next t) ∨
        t = s.raiseFault .unwritten (.step .emit)) := by
  unfold whenEmitting at h
  split at h
  · simp at h
  · rename_i hf
    split at h
    · rename_i hs
      obtain ⟨hp, hh⟩ := sendingWith_eq_true.mp hs
      split at h
      · rename_i ho
        refine ⟨by simpa using hf, hp, hh, ho, ?_⟩
        rcases readsAll_next h with ⟨hw, hk⟩ | hk
        · have : s.symIdx.written = true ∧ s.stepIdx.written = true := by simpa using hw
          exact .inl ⟨this.1, this.2, hk⟩
        · exact .inr hk
      · simp at h
    · simp at h

theorem whenHolding_next {s t : State} {k : Result} (h : whenHolding s k = .next t) :
    s.faults = [] ∧ s.phase = .wrote .send ∧ s.holding = .wrote true ∧ k = .next t := by
  unfold whenHolding at h
  split at h
  · simp at h
  · rename_i hf
    split at h
    · rename_i hs
      obtain ⟨hp, hh⟩ := sendingWith_eq_true.mp hs
      exact ⟨by simpa using hf, hp, hh, h⟩
    · simp at h

theorem emitTransition_next {pulses : List (Bool × Nat)} {s t : State} (h : emitTransition pulses s = .next t) :
    ∃ high m, pulses[s.stepIdx.held.toNat]? = some (high, m) ∧ t = s.drive high m := by
  unfold emitTransition at h
  split at h
  · rename_i high m hm
    exact ⟨high, m, hm, by simpa using h.symm⟩
  · simp at h

/-! `takeSymbol` writes SYM and WORK alone. -/

@[simp] theorem takeSymbol_life (s : State) : (takeSymbol s).life = s.life := by unfold takeSymbol; split <;> rfl
@[simp] theorem takeSymbol_lineOwned (s : State) : (takeSymbol s).lineOwned = s.lineOwned := by unfold takeSymbol; split <;> rfl
@[simp] theorem takeSymbol_openCount (s : State) : (takeSymbol s).openCount = s.openCount := by unfold takeSymbol; split <;> rfl
@[simp] theorem takeSymbol_phase (s : State) : (takeSymbol s).phase = s.phase := by unfold takeSymbol; split <;> rfl
@[simp] theorem takeSymbol_cmd (s : State) : (takeSymbol s).cmd = s.cmd := by unfold takeSymbol; split <;> rfl
@[simp] theorem takeSymbol_period (s : State) : (takeSymbol s).period = s.period := by unfold takeSymbol; split <;> rfl
@[simp] theorem takeSymbol_repLeft (s : State) : (takeSymbol s).repLeft = s.repLeft := by unfold takeSymbol; split <;> rfl
@[simp] theorem takeSymbol_acc (s : State) : (takeSymbol s).acc = s.acc := by unfold takeSymbol; split <;> rfl
@[simp] theorem takeSymbol_symIdx (s : State) : (takeSymbol s).symIdx = s.symIdx := by unfold takeSymbol; split <;> rfl
@[simp] theorem takeSymbol_stepIdx (s : State) : (takeSymbol s).stepIdx = s.stepIdx := by unfold takeSymbol; split <;> rfl
@[simp] theorem takeSymbol_holding (s : State) : (takeSymbol s).holding = s.holding := by unfold takeSymbol; split <;> rfl
@[simp] theorem takeSymbol_holdNom (s : State) : (takeSymbol s).holdNom = s.holdNom := by unfold takeSymbol; split <;> rfl
@[simp] theorem takeSymbol_writer (s : State) : (takeSymbol s).writer = s.writer := by unfold takeSymbol; split <;> rfl
@[simp] theorem takeSymbol_line (s : State) : (takeSymbol s).line = s.line := by unfold takeSymbol; split <;> rfl
@[simp] theorem takeSymbol_await (s : State) : (takeSymbol s).await = s.await := by unfold takeSymbol; split <;> rfl
@[simp] theorem takeSymbol_trace (s : State) : (takeSymbol s).trace = s.trace := by unfold takeSymbol; split <;> rfl
@[simp] theorem takeSymbol_now (s : State) : (takeSymbol s).now = s.now := by unfold takeSymbol; split <;> rfl
@[simp] theorem takeSymbol_faults (s : State) : (takeSymbol s).faults = s.faults := by unfold takeSymbol; split <;> rfl
@[simp] theorem takeSymbol_responses (s : State) : (takeSymbol s).responses = s.responses := by unfold takeSymbol; split <;> rfl
@[simp] theorem takeSymbol_schedule (s : State) : (takeSymbol s).schedule = s.schedule := by unfold takeSymbol; split <;> rfl
@[simp] theorem takeSymbol_draws (s : State) : (takeSymbol s).draws = s.draws := by unfold takeSymbol; split <;> rfl

theorem emitSymbol_next {code : BitVec 2} {pulses : List (Bool × Nat)} {s t : State}
    (h : emitSymbol code pulses s = .next t) :
    s.faults = [] ∧ s.phase = .wrote .send ∧ s.holding = .wrote false ∧ s.lineOwned = true ∧
      ((slotWritten s = true ∧ s.period.written = true ∧ s.symIdx.held < 12 ∧ slotCode s = code ∧
          ∃ high m, pulses[s.stepIdx.held.toNat]? = some (high, m) ∧ t = (takeSymbol s).drive high m) ∨
        t = s.raiseFault .unwritten (.step .emit)) := by
  obtain ⟨hf, hp, hh, ho, ⟨-, -, hk⟩ | hk⟩ := whenEmitting_next h
  · refine ⟨hf, hp, hh, ho, ?_⟩
    rcases readsAll_next hk with ⟨hw, hk⟩ | hk
    · have hw' : slotWritten s = true ∧ s.period.written = true := by simpa using hw
      split at hk
      · rename_i hc
        obtain ⟨high, m, hm, ht⟩ := emitTransition_next hk
        refine .inl ⟨hw'.1, hw'.2, hc.1, hc.2, high, m, ?_, ht⟩
        rwa [takeSymbol_stepIdx] at hm
      · simp at hk
    · exact .inr hk
  · exact ⟨hf, hp, hh, ho, .inr hk⟩

theorem execTerm_next {s t : State} (h : execTerm s = .next t) :
    s.faults = [] ∧ s.phase = .wrote .send ∧ s.holding = .wrote false ∧ s.lineOwned = true ∧
      ((s.period.written = true ∧ s.symIdx.held = 12 ∧
          ∃ high m, pulseTerm[s.stepIdx.held.toNat]? = some (high, m) ∧ t = s.drive high m) ∨
        t = s.raiseFault .unwritten (.step .emit)) := by
  obtain ⟨hf, hp, hh, ho, ⟨-, -, hk⟩ | hk⟩ := whenEmitting_next h
  · refine ⟨hf, hp, hh, ho, ?_⟩
    rcases readsAll_next hk with ⟨hw, hk⟩ | hk
    · split at hk
      · rename_i hc
        obtain ⟨high, m, hm, ht⟩ := emitTransition_next hk
        exact .inl ⟨by simpa using hw, hc, high, m, hm, ht⟩
      · simp at hk
    · exact .inr hk
  · exact ⟨hf, hp, hh, ho, .inr hk⟩

theorem execEncode_next {s t : State} (h : execEncode s = .next t) :
    s.faults = [] ∧ s.phase = .wrote .encode ∧
      ((s.cmd.written = true ∧ t = s.loadTelegram s.cmd.held) ∨ t = s.raiseFault .unwritten (.step .encode)) := by
  unfold execEncode at h
  split at h
  · simp at h
  · rename_i hf
    split at h
    · rename_i hs
      refine ⟨by simpa using hf, by simpa using hs, ?_⟩
      rcases readsAll_next h with ⟨hw, hk⟩ | hk
      · exact .inl ⟨by simpa using hw, by simpa using hk.symm⟩
      · exact .inr hk
    · simp at h

theorem execExpire_next {s t : State} (h : execExpire s = .next t) :
    s.faults = [] ∧ s.phase = .wrote .send ∧ s.holding = .wrote true ∧
      (((∀ m ∈ expireReads s, m = true) ∧
          t = advance (s.elapse (holdDuration s.holdNom.held.toNat s.draws))) ∨
        t = s.raiseFault .unwritten (.step .expire)) := by
  obtain ⟨hf, hp, hh, hk⟩ := whenHolding_next h
  refine ⟨hf, hp, hh, ?_⟩
  rcases readsAll_next hk with ⟨hw, hk⟩ | hk
  · exact .inl ⟨hw, by simpa using hk.symm⟩
  · exact .inr hk

/-- The five ways ADVANCE moves the position (R90). -/
theorem advance_cases (s : State) :
    (s.symIdx.held < 12 ∧ s.stepIdx.held = 3 ∧ advance s = s.setPosition (s.symIdx.held + 1) 0) ∨
    (s.symIdx.held < 12 ∧ s.stepIdx.held ≠ 3 ∧ advance s = s.setPosition s.symIdx.held (s.stepIdx.held + 1)) ∨
    (¬ s.symIdx.held < 12 ∧ s.stepIdx.held = 0 ∧ advance s = s.setPosition s.symIdx.held 1) ∨
    (¬ s.symIdx.held < 12 ∧ s.stepIdx.held ≠ 0 ∧ s.repLeft.held - 1 = 0 ∧
      advance s = finishTransmission (s.setPosition 0 0).countFrame) ∨
    (¬ s.symIdx.held < 12 ∧ s.stepIdx.held ≠ 0 ∧ s.repLeft.held - 1 ≠ 0 ∧
      advance s = (s.setPosition 0 0).countFrame.reloadWork) := by
  unfold advance endFrame
  split
  · rename_i h1
    split
    · rename_i h2; exact .inl ⟨h1, h2, rfl⟩
    · rename_i h2; exact .inr (.inl ⟨h1, h2, rfl⟩)
  · rename_i h1
    split
    · rename_i h2; exact .inr (.inr (.inl ⟨h1, h2, rfl⟩))
    · rename_i h2
      split
      · rename_i h3; exact .inr (.inr (.inr (.inl ⟨h1, h2, h3, rfl⟩)))
      · rename_i h3; exact .inr (.inr (.inr (.inr ⟨h1, h2, h3, rfl⟩)))

/-- What the Transmitter's selection says about the state (R58, R68). -/
theorem txSelect_code {s : State} {e : Encoding} (h : txSelect s = .code e) :
    (s.phase = .wrote .encode ∧ e = .phase Phase.encode.code) ∨
    (s.phase = .wrote .send ∧ s.holding = .wrote true ∧ e = .timing 1#1) ∨
    (s.phase = .wrote .send ∧ s.holding = .wrote false ∧ s.symIdx.written = true ∧ s.stepIdx.written = true ∧
      ((s.symIdx.held < 12 ∧ slotWritten s = true ∧ e = .symbol (slotCode s)) ∨
        (¬ s.symIdx.held < 12 ∧ e = .seqIndex s.symIdx.held))) := by
  unfold txSelect at h
  split at h
  · rename_i hp; exact .inl ⟨hp, by simpa using h.symm⟩
  · split at h
    · rename_i hp
      split at h
      · rename_i hw
        split at h
        · rename_i hh
          exact .inr (.inl ⟨hp, (Reg.eq_wrote_iff _ _).mpr ⟨hw, hh⟩, by simpa using h.symm⟩)
        · rename_i hh
          have hh' : s.holding = .wrote false := (Reg.eq_wrote_iff _ _).mpr ⟨hw, by simpa using hh⟩
          split at h
          · rename_i hpos
            have hpos' : s.symIdx.written = true ∧ s.stepIdx.written = true := by simpa using hpos
            refine .inr (.inr ⟨hp, hh', hpos'.1, hpos'.2, ?_⟩)
            split at h
            · rename_i hi
              split at h
              · rename_i hs; exact .inl ⟨hi, hs, by simpa using h.symm⟩
              · simp at h
            · rename_i hi; exact .inr ⟨hi, by simpa using h.symm⟩
          · simp at h
      · simp at h
    · simp at h

/-- What `fetch` answers an encoding from: the head request of a free caller, or the Transmitter's selection. -/
theorem fetch_code {s t : State} {e : Encoding} (h : fetch s = .code e t) :
    s.faults = [] ∧ (t = s ∨ t = s.dropMove) ∧
      ((∃ r, e = .request r ∧ r.caller ∉ s.await ∧ t = s.dropMove) ∨ txSelect s = .code e) := by
  unfold fetch at h
  split at h
  · simp at h
  · rename_i hf
    refine ⟨by simpa using hf, ?_⟩
    split at h
    · unfold fetchTransmit at h
      split at h <;> simp_all
    · rename_i r rest hs
      split at h
      · unfold fetchTransmit at h
        split at h <;> simp_all
      · rename_i ha
        simp only [Fetched.code.injEq] at h
        exact ⟨.inr h.2.symm, .inl ⟨r, h.1.symm, by simpa using ha, h.2.symm⟩⟩
    · split at h <;> simp_all

end Sys2Proof.Machine
end

