-- ==== Sys2Proof/Laws/Exec.lean ====
section
/-! SUPPORT. What each operation can do, one lemma per meaning: if it answers a next state, then that state is one of these. A
raised fault is always the last case. -/

namespace Sys2Proof.Machine

theorem execOpenReq_next {c : Caller} {len : Nat} {s t : State} (h : execOpenReq c len s = .next t) :
    s.faults = [] ∧ c ∉ s.await ∧
      ((s.life = .ready ∧ s.openCount = .wrote true ∧ t = (s.issue c).respond c .busy 0) ∨
        (s.life = .ready ∧ s.openCount = .wrote false ∧ t = ((s.issue c).setOpenCount true).respond c .ok 0) ∨
        ∃ code, (code = .unwritten → s.life = .ready ∧ s.openCount.written = false) ∧ code ≠ .symbolThree ∧
          t = (s.issue c).raiseFault code (.request 0b001#3 c len)) := by
  obtain ⟨hf, hc, hk⟩ := atPort_next h
  refine ⟨hf, hc, ?_⟩
  rcases whenReady_next hk with ⟨hr, hk⟩ | ⟨-, hk⟩
  · unfold readsAll at hk
    split at hk
    · rename_i hw
      have hw' : s.openCount.written = true := by simpa using hw
      split at hk
      · rename_i ho
        exact .inl ⟨hr, (Reg.eq_wrote_iff _ _).mpr ⟨hw', ho⟩, by simpa using hk.symm⟩
      · rename_i ho
        exact .inr (.inl ⟨hr, (Reg.eq_wrote_iff _ _).mpr ⟨hw', by simpa [State.sessionOpen] using ho⟩,
          by simpa using hk.symm⟩)
    · rename_i hw
      exact .inr (.inr ⟨.unwritten, fun _ => ⟨hr, by simpa using hw⟩, by decide, by simpa using hk.symm⟩)
  · exact .inr (.inr ⟨.notReady, by simp, by decide, hk⟩)

/-- The checks that CLOSE, READ and WRITE share (R94). -/
theorem sessionGate_next {c : Caller} {q : Cause} {s t : State} {k : State → Result}
    (h : atPort c s (fun u => whenReady q u (whenOpen q u (k u))) = .next t) :
    s.faults = [] ∧ c ∉ s.await ∧
      ((s.life = .ready ∧ s.openCount = .wrote true ∧ k (s.issue c) = .next t) ∨
        ∃ code, (code = .unwritten → s.life = .ready ∧ s.openCount.written = false) ∧ code ≠ .symbolThree ∧
          t = (s.issue c).raiseFault code q) := by
  obtain ⟨hf, hc, hk⟩ := atPort_next h
  refine ⟨hf, hc, ?_⟩
  rcases whenReady_next hk with ⟨hr, hk⟩ | ⟨-, hk⟩
  · unfold whenOpen readsAll at hk
    split at hk
    · rename_i hw
      have hw' : s.openCount.written = true := by simpa using hw
      split at hk
      · rename_i ho
        exact .inl ⟨hr, (Reg.eq_wrote_iff _ _).mpr ⟨hw', ho⟩, hk⟩
      · exact .inr ⟨.notOpen, by simp, by decide, by simpa using hk.symm⟩
    · rename_i hw
      exact .inr ⟨.unwritten, fun _ => ⟨hr, by simpa using hw⟩, by decide, by simpa using hk.symm⟩
  · exact .inr ⟨.notReady, by simp, by decide, hk⟩

theorem execCloseReq_next {c : Caller} {len : Nat} {s t : State} (h : execCloseReq c len s = .next t) :
    s.faults = [] ∧ c ∉ s.await ∧
      ((s.life = .ready ∧ s.openCount = .wrote true ∧ t = ((s.issue c).setOpenCount false).respond c .ok 0) ∨
        ∃ code, (code = .unwritten → s.life = .ready ∧ s.openCount.written = false) ∧ code ≠ .symbolThree ∧
          t = (s.issue c).raiseFault code (.request 0b010#3 c len)) := by
  obtain ⟨hf, hc, ⟨hr, ho, hk⟩ | hk⟩ :=
    sessionGate_next (k := fun u => .next ((u.setOpenCount false).respond c .ok 0)) h
  · exact ⟨hf, hc, .inl ⟨hr, ho, by simpa using hk.symm⟩⟩
  · exact ⟨hf, hc, .inr hk⟩

theorem execReadReq_next {c : Caller} {len : Nat} {s t : State} (h : execReadReq c len s = .next t) :
    s.faults = [] ∧ c ∉ s.await ∧
      ((s.life = .ready ∧ s.openCount = .wrote true ∧ t = (s.issue c).respond c .ok 0) ∨
        ∃ code, (code = .unwritten → s.life = .ready ∧ s.openCount.written = false) ∧ code ≠ .symbolThree ∧
          t = (s.issue c).raiseFault code (.request 0b011#3 c len)) := by
  obtain ⟨hf, hc, ⟨hr, ho, hk⟩ | hk⟩ := sessionGate_next (k := fun u => .next (u.respond c .ok 0)) h
  · exact ⟨hf, hc, .inl ⟨hr, ho, by simpa using hk.symm⟩⟩
  · exact ⟨hf, hc, .inr hk⟩

/-- What a WRITE of an open session can do (R102, R103). -/
theorem takeWrite_next {c : Caller} {buf : List Byte} {s t : State} (h : takeWrite c buf s = .next t) :
    (buf.length ≠ 4 ∧ t = s.respond c .invalidLength 0) ∨
      (∃ b0 b1 b2 b3, buf = [b0, b1, b2, b3] ∧ s.phase = .wrote .idle ∧
        t = s.latch c (commandWord b0 b1 b2 b3)) ∨
      ∃ code, (code = .unwritten → s.phase.written = false) ∧ code ≠ .symbolThree ∧
        t = s.raiseFault code (.request 0b100#3 c 4) := by
  unfold takeWrite at h
  split at h
  · rename_i b0 b1 b2 b3
    unfold readsAll at h
    split at h
    · rename_i hw
      have hw' : s.phase.written = true := by simpa using hw
      split at h
      · exact .inr (.inr ⟨.concurrentWrite, by simp, by decide, by simpa using h.symm⟩)
      · rename_i hp
        have hp' : s.phase.held = .idle := by simpa using hp
        exact .inr (.inl ⟨b0, b1, b2, b3, rfl, (Reg.eq_wrote_iff _ _).mpr ⟨hw', hp'⟩, by simpa using h.symm⟩)
    · rename_i hw
      exact .inr (.inr ⟨.unwritten, fun _ => by simpa using hw, by decide, by simpa using h.symm⟩)
  · rename_i hne
    refine .inl ⟨fun hl => ?_, by simpa using h.symm⟩
    match buf, hl with
    | [b0, b1, b2, b3], _ => exact hne b0 b1 b2 b3 rfl

theorem execWriteReq_next {c : Caller} {buf : List Byte} {s t : State} (h : execWriteReq c buf s = .next t) :
    s.faults = [] ∧ c ∉ s.await ∧
      ((s.life = .ready ∧ s.openCount = .wrote true ∧ buf.length ≠ 4 ∧
          t = (s.issue c).respond c .invalidLength 0) ∨
        (∃ b0 b1 b2 b3, buf = [b0, b1, b2, b3] ∧ s.life = .ready ∧ s.openCount = .wrote true ∧
          s.phase = .wrote .idle ∧ t = (s.issue c).latch c (commandWord b0 b1 b2 b3)) ∨
        ∃ code q, (code = .unwritten → s.life = .ready ∧ (s.openCount.written = false ∨ s.phase.written = false)) ∧
          code ≠ .symbolThree ∧ t = (s.issue c).raiseFault code q) := by
  obtain ⟨hf, hc, ⟨hr, ho, hk⟩ | ⟨code, hu, h3, hk⟩⟩ := sessionGate_next (k := takeWrite c buf) h
  · refine ⟨hf, hc, ?_⟩
    rcases takeWrite_next hk with ⟨hl, ht⟩ | ⟨b0, b1, b2, b3, hb, hp, ht⟩ | ⟨code, hu, h3, ht⟩
    · exact .inl ⟨hr, ho, hl, ht⟩
    · exact .inr (.inl ⟨b0, b1, b2, b3, hb, hr, ho, hp, ht⟩)
    · exact .inr (.inr ⟨code, _, fun hcode => ⟨hr, .inr (hu hcode)⟩, h3, ht⟩)
  · exact ⟨hf, hc, .inr (.inr ⟨code, _, fun hcode => ⟨(hu hcode).1, .inl (hu hcode).2⟩, h3, hk⟩)⟩

theorem execStartupReq_next {c : Caller} {len : Nat} {s t : State} (h : execStartupReq c len s = .next t) :
    s.faults = [] ∧ c ∉ s.await ∧
      ((s.life = .uninit ∧ t = (s.issue c).becomeReady.respond c .ok 0) ∨
        (s.life = .uninit ∧ t = (s.issue c).becomeFailed.respond c .lineFailure 0) ∨
        (s.life ≠ .uninit ∧ t = (s.issue c).raiseFault .lifecycle (.request 0b101#3 c len))) := by
  obtain ⟨hf, hc, hk⟩ := atPort_next h
  refine ⟨hf, hc, ?_⟩
  split at hk
  · rename_i hl
    simp only [Host.Outcome.next.injEq, startupState] at hk
    split at hk
    · exact .inl ⟨hl, hk.symm⟩
    · exact .inr (.inl ⟨hl, hk.symm⟩)
  · rename_i hl
    exact .inr (.inr ⟨hl, by simpa using hk.symm⟩)

theorem execShutdownReq_next {c : Caller} {len : Nat} {s t : State} (h : execShutdownReq c len s = .next t) :
    s.faults = [] ∧ c ∉ s.await ∧
      ((s.life = .ready ∧ s.openCount = .wrote false ∧ s.phase = .wrote .idle ∧
          t = (s.issue c).releaseLine.respond c .ok 0) ∨
        ∃ code, (code = .unwritten → s.life = .ready ∧ (s.openCount.written = false ∨ s.phase.written = false)) ∧
          code ≠ .symbolThree ∧ t = (s.issue c).raiseFault code (.request 0b110#3 c len)) := by
  obtain ⟨hf, hc, hk⟩ := atPort_next h
  refine ⟨hf, hc, ?_⟩
  rcases whenReady_next hk with ⟨hr, hk⟩ | ⟨-, hk⟩
  · unfold readsAll at hk
    split at hk
    · rename_i hw
      have hw' : s.openCount.written = true ∧ s.phase.written = true := by simpa using hw
      split at hk
      · exact .inr ⟨.lifecycle, by simp, by decide, by simpa using hk.symm⟩
      · rename_i ho
        have ho' : s.openCount.held = false ∧ s.phase.held = .idle := by
          simpa [State.sessionOpen] using ho
        exact .inl ⟨hr, (Reg.eq_wrote_iff _ _).mpr ⟨hw'.1, ho'.1⟩, (Reg.eq_wrote_iff _ _).mpr ⟨hw'.2, ho'.2⟩,
          by simpa using hk.symm⟩
    · rename_i hw
      refine .inr ⟨.unwritten, fun _ => ⟨hr, ?_⟩, by decide, by simpa using hk.symm⟩
      by_contra hcon
      exact hw (by simpa using hcon)
  · exact .inr ⟨.notReady, by simp, by decide, hk⟩

/-- The state of a transmission at its end, with the writer answered (R90). -/
theorem finishTransmission_cases (s : State) :
    (∃ c, s.writer.held = some c ∧ finishTransmission s = (s.respond c .ok 4).goIdle) ∨
      (s.writer.held = none ∧ finishTransmission s = s.goIdle) := by
  unfold finishTransmission
  split
  · rename_i c hc; exact .inl ⟨c, hc, rfl⟩
  · rename_i hc; exact .inr ⟨hc, rfl⟩

/-- What the marks of EXPIRE's reads say, register by register (R35). -/
theorem expireReads_all {s : State} (h : ∀ m ∈ expireReads s, m = true) :
    s.holdNom.written = true ∧ s.symIdx.written = true ∧ s.stepIdx.written = true ∧
      (endsFrame s = true → s.repLeft.written = true) ∧
      (endsFrame s = true → endsTransmission s = false → s.acc.written = true) ∧
      (endsTransmission s = true → s.writer.written = true) := by
  simp only [expireReads, List.mem_cons, List.not_mem_nil, or_false, forall_eq_or_imp, forall_eq,
    Bool.or_eq_true, Bool.not_eq_true', Bool.and_eq_false_iff, Bool.not_eq_false'] at h
  obtain ⟨h1, h2, h3, h4, h5, h6⟩ := h
  refine ⟨h1, h2, h3, fun hf => ?_, fun hf ht => ?_, fun ht => ?_⟩
  · rcases h4 with h4 | h4
    · simp [hf] at h4
    · exact h4
  · rcases h5 with (h5 | h5) | h5
    · simp [hf] at h5
    · simp [ht] at h5
    · exact h5
  · rcases h6 with h6 | h6
    · simp [ht] at h6
    · exact h6

end Sys2Proof.Machine
end

