-- ==== Sys2Proof/Laws/Operands.lean ====
section
/-! SUPPORT. Small lemmas of the packing loop, of the pulse tables and of the trace. -/

namespace Sys2Proof.Machine

/-- Shifting two places and or-ing a trit is base-4 arithmetic: the two low bits are free (R73). -/
theorem append_trit (acc r : Nat) (h : r < 4) : acc <<< 2 ||| r = 4 * acc + r := by
  rw [← Nat.shiftLeft_add_eq_or_of_lt (by simpa using h), Nat.shiftLeft_eq]
  omega

theorem packTrits_succ (n q acc : Nat) :
    packTrits (n + 1) q acc = packTrits n (q / 3) (4 * acc + q % 3) := by
  rw [packTrits, append_trit _ _ (by omega)]

/-- R73: no shift loses a bit. -/
theorem packTrits_lt (n q acc k : Nat) (h : acc < 4 ^ k) : packTrits n q acc < 4 ^ (k + n) := by
  induction n generalizing q acc k with
  | zero => simpa [packTrits] using h
  | succ n ih =>
    rw [packTrits_succ]
    have : 4 * acc + q % 3 < 4 ^ (k + 1) := by rw [pow_succ]; omega
    simpa [Nat.add_assoc, Nat.add_comm 1 n] using ih (q / 3) _ (k + 1) this

/-- R73: 24 bits hold the result, so the narrowing of `encode12` drops nothing. -/
theorem encode12_toNat (p : BitVec 20) : (encode12 p).toNat = packTrits 12 p.toNat 0 := by
  have := packTrits_lt 12 p.toNat 0 0 (by norm_num)
  simp only [encode12, BitVec.toNat_ofNat]
  exact Nat.mod_eq_of_lt (by simpa using this)

/-- `TRACE[last].actual <- d` on a trace with a last entry (R89). -/
theorem setLastActual_append (d : Nat) (l : List Transition) (x : Transition) :
    setLastActual d (l ++ [x]) = l ++ [{ x with actual := some d }] := by
  induction l with
  | nil => rfl
  | cons y ys ih =>
    cases ys with
    | nil => rfl
    | cons z zs => simpa [setLastActual] using ih

/-- Every `STEP` of a symbol has a transition (R81 to R83). -/
theorem pulse_total (k : BitVec 2) :
    (pulse0[k.toNat]?).isSome ∧ (pulse1[k.toNat]?).isSome ∧ (pulse2[k.toNat]?).isSome := by
  revert k; decide

end Sys2Proof.Machine
end

