-- ==== Sys2Proof/Laws/PerInstr.lean ====
section
/-! SUPPORT. One family over all operations: the encoder writes each operation with the format and the code of its row of
spec/opcode_table.json. -/

namespace Sys2Proof

/-- The mnemonic of spec/opcode_table.json. -/
def mnemonicOf : Instr → String
  | .openReq _ _ => "OPEN"
  | .closeReq _ _ => "CLOSE"
  | .readReq _ _ => "READ"
  | .writeReq _ _ => "WRITE"
  | .startupReq _ _ => "STARTUP"
  | .shutdownReq _ _ => "SHUTDOWN"
  | .encode => "ENCODE"
  | .sym0 => "SYM0"
  | .sym1 => "SYM1"
  | .sym2 => "SYM2"
  | .term => "TERM"
  | .expire => "EXPIRE"

/-- The format an encoding is read in. -/
def Encoding.format : Encoding → Format
  | .request _ => .hostRequest
  | .phase _ => .phase
  | .symbol _ => .symbol
  | .seqIndex _ => .seqIndex
  | .timing _ => .timing

/-- The code that selects the row within the format. -/
def Encoding.code : Encoding → Nat
  | .request r => r.op.toNat
  | .phase c => c.toNat
  | .symbol c => c.toNat
  | .seqIndex c => c.toNat
  | .timing c => c.toNat

/-- The row of the operation's mnemonic has the format and the code the encoder writes. -/
def Laws.RowCode.Statement (i : Instr) : Prop :=
  ∃ r ∈ opcodeTable, r.mnemonic = mnemonicOf i ∧ r.format = (encode i).format ∧ r.value = (encode i).code

theorem Laws.RowCode.openReq (c : Caller) (len : Nat) : Laws.RowCode.Statement (.openReq c len) :=
  ⟨⟨"OPEN", .hostRequest, 3, 1⟩, by decide, rfl, rfl, rfl⟩

theorem Laws.RowCode.closeReq (c : Caller) (len : Nat) : Laws.RowCode.Statement (.closeReq c len) :=
  ⟨⟨"CLOSE", .hostRequest, 3, 2⟩, by decide, rfl, rfl, rfl⟩

theorem Laws.RowCode.readReq (c : Caller) (len : Nat) : Laws.RowCode.Statement (.readReq c len) :=
  ⟨⟨"READ", .hostRequest, 3, 3⟩, by decide, rfl, rfl, rfl⟩

theorem Laws.RowCode.writeReq (c : Caller) (buf : List Byte) : Laws.RowCode.Statement (.writeReq c buf) :=
  ⟨⟨"WRITE", .hostRequest, 3, 4⟩, by decide, rfl, rfl, rfl⟩

theorem Laws.RowCode.startupReq (c : Caller) (len : Nat) : Laws.RowCode.Statement (.startupReq c len) :=
  ⟨⟨"STARTUP", .hostRequest, 3, 5⟩, by decide, rfl, rfl, rfl⟩

theorem Laws.RowCode.shutdownReq (c : Caller) (len : Nat) : Laws.RowCode.Statement (.shutdownReq c len) :=
  ⟨⟨"SHUTDOWN", .hostRequest, 3, 6⟩, by decide, rfl, rfl, rfl⟩

theorem Laws.RowCode.encode : Laws.RowCode.Statement .encode :=
  ⟨⟨"ENCODE", .phase, 2, 1⟩, by decide, rfl, rfl, rfl⟩

theorem Laws.RowCode.sym0 : Laws.RowCode.Statement .sym0 :=
  ⟨⟨"SYM0", .symbol, 2, 0⟩, by decide, rfl, rfl, rfl⟩

theorem Laws.RowCode.sym1 : Laws.RowCode.Statement .sym1 :=
  ⟨⟨"SYM1", .symbol, 2, 1⟩, by decide, rfl, rfl, rfl⟩

theorem Laws.RowCode.sym2 : Laws.RowCode.Statement .sym2 :=
  ⟨⟨"SYM2", .symbol, 2, 2⟩, by decide, rfl, rfl, rfl⟩

theorem Laws.RowCode.term : Laws.RowCode.Statement .term :=
  ⟨⟨"TERM", .seqIndex, 4, 12⟩, by decide, rfl, rfl, rfl⟩

theorem Laws.RowCode.expire : Laws.RowCode.Statement .expire :=
  ⟨⟨"EXPIRE", .timing, 1, 1⟩, by decide, rfl, rfl, rfl⟩

end Sys2Proof
end

