-- ==== Sys2Proof/Tests/Slice0.lean ====
section
/-! SUPPORT. Tests against the spec's own examples (spec/95_test_vectors.md and the worked examples of the rules), the smoke
tests of WellFormed, and a witness for the hypotheses of each statement of Certificates/Slice0/Obligations.lean. -/

namespace Sys2Proof.Machine

/-! ## Small states -/

/-- READY, no session (the state after a successful STARTUP, spec/10_state.md R17). -/
def readyState : State := State.reset.becomeReady

/-- READY with a session open. -/
def openState : State := readyState.setOpenCount true

/-- Caller 0's WRITE of 0x00900005 is accepted (vector 2.4). -/
def encodeState : State := (openState.issue (.host 0)).latch (.host 0) 0x00900005#32

/-- Vector 2.4, step 1: ENCODE has run. -/
def sendState : State := encodeState.loadTelegram 0x00900005#32

/-- The Transmitter between two transitions at a position, `SYM` being `code`. -/
def sendAt (code : BitVec 2) (idx : BitVec 4) (k : BitVec 2) : State :=
  { sendState.setPosition idx k with sym := .wrote code, work := .wrote (code.setWidth 24) }

/-- A hold of T runs at a position. -/
def holdAt (idx : BitVec 4) (k : BitVec 2) : State := (sendAt 0 idx k).drive true 1

/-- A fault is recorded. -/
def faultedState : State := readyState.raiseFault .notOpen (.request 0b010#3 (.host 0) 0)

/-- A field of the next state, if there is one. -/
def nextField {α : Type} (r : Result) (f : State → α) : Option α :=
  match r with
  | .next s => some (f s)
  | .fault _ => none
  | .refused _ => none

/-! ## WellFormed: a term that each check refuses -/

theorem test_wf_refuses_unknown_caller : (Instr.openReq (.host 2) 0).wf 2 = false := by decide
theorem test_wf_refuses_unknown_writer : (Instr.writeReq (.host 5) []).wf 1 = false := by decide
theorem test_wf_accepts_last_caller : (Instr.closeReq (.host 1) 0).wf 2 = true := by decide
theorem test_wf_accepts_lc : (Instr.startupReq .lc 0).wf 1 = true := by decide
theorem test_request_refuses_short_buffer :
    (Request.mk 0b100#3 (.host 0) 4 [1, 2, 3]).wf 1 = false := by decide
theorem test_request_refuses_unknown_caller :
    (Request.mk 0b001#3 (.host 1) 0 []).wf 1 = false := by decide
theorem test_read_needs_no_buffer : (Request.mk 0b011#3 (.host 0) 16 []).wf 1 = true := by decide

/-! ## Decoding, from the tables of R57, R58, R61 -/

theorem test_decode_open : decode (.request ⟨0b001#3, .host 0, 0, []⟩) = .ok (.openReq (.host 0) 0) := by decide
theorem test_decode_close : decode (.request ⟨0b010#3, .host 1, 0, []⟩) = .ok (.closeReq (.host 1) 0) := by decide
/-- Program P2, line 5. -/
theorem test_decode_read : decode (.request ⟨0b011#3, .host 0, 16, []⟩) = .ok (.readReq (.host 0) 16) := by decide
/-- Program P3: `100 / 4 / 0D 00 10 AF`. -/
theorem test_decode_write :
    decode (.request ⟨0b100#3, .host 0, 4, [0x0D, 0x00, 0x10, 0xAF]⟩) =
      .ok (.writeReq (.host 0) [0x0D, 0x00, 0x10, 0xAF]) := by decide
theorem test_decode_startup : decode (.request ⟨0b101#3, .lc, 0, []⟩) = .ok (.startupReq .lc 0) := by decide
theorem test_decode_shutdown : decode (.request ⟨0b110#3, .lc, 0, []⟩) = .ok (.shutdownReq .lc 0) := by decide
theorem test_decode_encode : decode (.phase 0b01#2) = .ok .encode := by decide
theorem test_decode_sym0 : decode (.symbol 0b00#2) = .ok .sym0 := by decide
theorem test_decode_sym1 : decode (.symbol 0b01#2) = .ok .sym1 := by decide
theorem test_decode_sym2 : decode (.symbol 0b10#2) = .ok .sym2 := by decide
theorem test_decode_term : decode (.seqIndex 0b1100#4) = .ok .term := by decide
theorem test_decode_expire : decode (.timing 0b1#1) = .ok .expire := by decide
theorem test_decode_reserved0 : decode (.request ⟨0b000#3, .host 0, 0, []⟩) = .rejected .reservedOp := by decide
theorem test_decode_reserved7 : decode (.request ⟨0b111#3, .host 0, 0, []⟩) = .rejected .reservedOp := by decide
theorem test_decode_symbol3 : decode (.symbol 0b11#2) = .rejected .symbolThree := by decide

/-- No two rows of one format share a code; codes of different formats do (log 6). -/
theorem test_table_rows_distinct :
    opcodeTable.Pairwise (fun a b => a.format = b.format → a.value ≠ b.value) := by decide
theorem test_table_word_open : decodeTableWord 8 0b001 = some (.openReq (.host 0) 0) := by decide
theorem test_table_word_sym0 : decodeTableWord 8 0b00 = some .sym0 := by decide
theorem test_table_word_term : decodeTableWord 8 0b1100 = some .term := by decide
theorem test_table_word_expire : decodeTableWord 1 0b1 = some .expire := by decide
theorem test_table_word_reserved : decodeTableWord 8 0b111 = none := by decide

/-! ## Fields and packing, from vectors 2.1, 2.2, 2.9 -/

theorem test_fields_AF10000D :
    period 0xAF10000D = 350 ∧ repeats 0xAF10000D = 2 ∧ payload 0xAF10000D = 13 := by decide
theorem test_fields_FFFFFFFF :
    period 0xFFFFFFFF = 511 ∧ repeats 0xFFFFFFFF = 128 ∧ payload 0xFFFFFFFF = 1048575 := by decide
theorem test_fields_FF000000 : period 0xFF000000 = 0x1FE ∧ repeats 0xFF000000 = 1 := by decide
theorem test_bytes_little_endian : commandWord 0x0D 0x00 0x10 0xAF = 0xAF10000D := by decide
theorem test_command_word_of_fields : commandOf 350 1 13 = 0xAF10000D := by decide
theorem test_encode12_13 : encode12 13 = 0x540000 := by decide
theorem test_encode12_284280 : encode12 284280 = 0x29A865 := by decide
theorem test_encode12_last : encode12 531440 = 0xAAAAAA := by decide
theorem test_encode12_truncates : encode12 900847 = 0x492882 := by decide
theorem test_decode12_900847 : decode12 0x492882 = 369406 := by decide

/-! ## Requests, from vectors 2.6 and 2.7 -/

theorem test_open_ok :
    nextField (exec (.openReq (.host 0) 0) readyState) (fun s => (s.openCount, s.responses, s.await)) =
      some (.wrote true, [⟨.host 0, .ok, 0⟩], []) := by decide
theorem test_open_busy :
    nextField (exec (.openReq (.host 1) 0) openState) (fun s => (s.openCount, s.responses)) =
      some (.wrote true, [⟨.host 1, .busy, 0⟩]) := by decide
theorem test_close_by_another_caller :
    nextField (exec (.closeReq (.host 1) 0) encodeState) (fun s => (s.openCount, s.phase, s.writer)) =
      some (.wrote false, .wrote .encode, .wrote (some (.host 0))) := by decide
theorem test_close_not_open :
    nextField (exec (.closeReq (.host 0) 0) readyState)
      (fun s => (s.faults.map (fun f => (f.code, f.cause)), s.await)) =
      some ([(.notOpen, .request 0b010 (.host 0) 0)], [.host 0]) := by decide
theorem test_read_16 :
    nextField (exec (.readReq (.host 0) 16) openState) (fun s => s.responses) =
      some [⟨.host 0, .ok, 0⟩] := by decide
theorem test_read_before_startup :
    nextField (exec (.readReq (.host 0) 0) State.reset) (fun s => s.faults.map (fun f => f.code)) =
      some [.notReady] := by decide
theorem test_write_accepted :
    nextField (exec (.writeReq (.host 0) [0x0D, 0x00, 0x10, 0xAF]) openState)
      (fun s => (s.cmd, s.writer, s.phase, s.await)) =
      some (.wrote 0xAF10000D, .wrote (some (.host 0)), .wrote .encode, [.host 0]) := by decide
/-- The length check comes before the concurrency fault. -/
theorem test_write_3_during_transmission :
    nextField (exec (.writeReq (.host 1) [1, 2, 3]) sendState) (fun s => s.responses) =
      some [⟨.host 1, .invalidLength, 0⟩] := by decide
/-- Program P5. -/
theorem test_write_concurrent :
    nextField (exec (.writeReq (.host 1) [0x78, 0x56, 0x34, 0x12]) encodeState)
      (fun s => (s.faults.map (fun f => (f.code, f.cause)), s.cmd, s.await)) =
      some ([(.concurrentWrite, .request 0b100 (.host 1) 4)], .wrote 0x00900005, [.host 0, .host 1]) := by decide
theorem test_startup_success :
    (startupState true .lc (State.reset.issue .lc)).life = .ready ∧
      (startupState true .lc (State.reset.issue .lc)).line = .unknown := by decide
theorem test_startup_twice :
    nextField (exec (.startupReq .lc 0) readyState) (fun s => s.faults.map (fun f => f.code)) =
      some [.lifecycle] := by decide
theorem test_shutdown_ok :
    nextField (exec (.shutdownReq .lc 0) readyState) (fun s => (s.life, s.lineOwned, s.responses)) =
      some (.released, false, [⟨.lc, .ok, 0⟩]) := by decide
theorem test_shutdown_session_open :
    nextField (exec (.shutdownReq .lc 0) openState) (fun s => s.faults.map (fun f => f.code)) =
      some [.lifecycle] := by decide
/-- A reserved OP is checked before readiness. -/
theorem test_reserved_op_before_startup :
    nextField (step { State.reset with schedule := [.request ⟨0b111#3, .host 0, 0, []⟩] })
      (fun s => s.faults.map (fun f => f.code)) = some [.reservedOp] := by decide

/-! ## The Transmitter, from vector 2.4 -/

theorem test_encode_step :
    nextField (exec .encode encodeState) (fun s => (s.repLeft, s.work, s.phase, s.line)) =
      some (.wrote 2, .wrote 0x900000, .wrote .send, .unknown) := by decide
theorem test_first_emit :
    nextField (exec .sym0 sendState) (fun s => (s.work, s.sym, s.holding, s.holdNom, s.line)) =
      some (.wrote 0x240000, .wrote 0, .wrote true, .wrote 1, .level true) := by decide
theorem test_sym1_third :
    nextField (exec .sym1 (sendAt 1 10 2)) (fun s => (s.trace, s.work)) =
      some ([⟨true, 3, none⟩], .wrote 1) := by decide
theorem test_sym2_third :
    nextField (exec .sym2 (sendAt 2 11 2)) (fun s => s.trace) = some [⟨true, 3, none⟩] := by decide
theorem test_sym2_first :
    nextField (exec .sym2 (sendAt 2 11 0)) (fun s => (s.trace, s.sym, s.work)) =
      some ([⟨true, 1, none⟩], .wrote 2, .wrote 0) := by decide
theorem test_term_low :
    nextField (exec .term (sendAt 2 12 1)) (fun s => (s.trace, s.holdNom)) =
      some ([⟨false, 31, none⟩], .wrote 31) := by decide
theorem test_expire_next_slot :
    nextField (exec .expire (holdAt 10 3)) (fun s => (s.symIdx, s.stepIdx, s.holding)) =
      some (.wrote 11, .wrote 0, .wrote false) := by decide
/-- Vector 2.4, step 101: the frame ends, WORK is reloaded. -/
theorem test_expire_reload :
    nextField (exec .expire (holdAt 12 1)) (fun s => (s.repLeft, s.work, s.symIdx, s.phase)) =
      some (.wrote 1, .wrote 0x900000, .wrote 0, .wrote .send) := by decide
/-- R85: symbol 3 is recorded and nothing is emitted. -/
theorem test_symbol3 :
    nextField (step (sendAt 3 4 1)) (fun s => (s.faults.map (fun f => f.code), s.trace)) =
      some ([.symbolThree], []) := by decide

/-! ## The placing of a table word: the next move executes it -/

theorem test_place_sym0 : (step (State.reset.withFetchWord 8 0b00)) =
    exec .sym0 { State.reset.withFetchWord 8 0b00 with schedule := [] } := rfl
theorem test_place_expire : (step (State.reset.withFetchWord 1 0b1)) =
    exec .expire { State.reset.withFetchWord 1 0b1 with schedule := [] } := rfl
theorem test_place_startup : (step (State.reset.withFetchWord 8 0b101)) =
    exec (.startupReq (.host 0) 0) { State.reset.withFetchWord 8 0b101 with schedule := [] } := rfl
theorem test_place_encode : (step (State.reset.withFetchWord 2 0b01)) =
    exec .encode { State.reset.withFetchWord 2 0b01 with schedule := [] } := rfl

/-! ## Witnesses of the hypotheses -/

theorem witness_DecodeEncodeAgree : decode (.symbol 0b10#2) = .ok .sym2 := rfl
theorem witness_EncodeTruncates : 531441 ≤ (1048575 : BitVec 20).toNat := by decide
theorem witness_DecodeTwelveRoundTrip : SlotsLegal 0x540000#24 ∧ (0 : Nat) < 12 ∧ 11 < 12 := by
  refine ⟨fun j hj => ?_, by decide, by decide⟩
  interval_cases j <;> decide
theorem witness_EncodeLoadsTelegram_repeats : repExp 0xFFFFFFFF = 7 := by decide

theorem witness_EncodeLoadsTelegram :
    encodeState.faults = [] ∧ encodeState.phase = .wrote .encode ∧ encodeState.cmd = .wrote 0x00900005#32 :=
  ⟨rfl, rfl, rfl⟩
theorem witness_DisabledOperationsStop_encode : readyState.faults = [] ∧ readyState.phase ≠ .wrote .encode :=
  ⟨rfl, by decide⟩

/-- For OpenAnswers, CloseAnswers, ReadAnswers, WriteAnswers and ShutdownAnswers before STARTUP, and for StartupAnswers. -/
theorem witness_request_uninit : CanIssue State.reset (.host 0) ∧ State.reset.life ≠ .ready ∧
    State.reset.life = .uninit := ⟨⟨rfl, by decide⟩, by decide, rfl⟩
/-- For OpenAnswers, CloseAnswers, ReadAnswers, WriteAnswers and ShutdownAnswers, no session open. -/
theorem witness_request_ready_closed : CanIssue readyState (.host 1) ∧ readyState.life = .ready ∧
    readyState.openCount = .wrote false ∧ readyState.phase = .wrote .idle :=
  ⟨⟨rfl, by decide⟩, rfl, rfl, rfl⟩
/-- For OpenAnswers, CloseAnswers, ReadAnswers and WriteAnswers, a session open. -/
theorem witness_request_ready_open : CanIssue openState (.host 1) ∧ openState.life = .ready ∧
    openState.openCount = .wrote true ∧ openState.phase = .wrote .idle :=
  ⟨⟨rfl, by decide⟩, rfl, rfl, rfl⟩
theorem witness_WriteAnswers_lengths :
    ([] : List Byte).length ≠ 4 ∧ ([1, 2, 3] : List Byte).length ≠ 4 ∧ ([1, 2, 3, 4, 5] : List Byte).length ≠ 4 ∧
      ([1, 2, 3, 4] : List Byte).length = 4 := by decide
theorem witness_WriteAnswers_concurrent_encode : CanIssue encodeState (.host 1) ∧ encodeState.life = .ready ∧
    encodeState.openCount = .wrote true ∧ encodeState.phase = .wrote .encode :=
  ⟨⟨rfl, by decide⟩, rfl, rfl, rfl⟩
theorem witness_WriteAnswers_concurrent_send : CanIssue sendState (.host 1) ∧ sendState.life = .ready ∧
    sendState.openCount = .wrote true ∧ sendState.phase = .wrote .send :=
  ⟨⟨rfl, by decide⟩, rfl, rfl, rfl⟩
theorem witness_StartupAnswers_second : CanIssue readyState .lc ∧ readyState.life ≠ .uninit :=
  ⟨⟨rfl, by decide⟩, by decide⟩
theorem witness_StartupAnswers_failed : CanIssue State.reset.becomeFailed .lc ∧
    State.reset.becomeFailed.life = .failed := ⟨⟨rfl, by decide⟩, rfl⟩
theorem witness_ShutdownAnswers_open : CanIssue openState .lc ∧ openState.life = .ready ∧
    openState.openCount.written = true ∧ openState.phase.written = true ∧ openState.openCount = .wrote true :=
  ⟨⟨rfl, by decide⟩, rfl, rfl, rfl, rfl⟩
theorem witness_ShutdownAnswers_inFlight : CanIssue (encodeState.setOpenCount false) .lc ∧
    (encodeState.setOpenCount false).life = .ready ∧ (encodeState.setOpenCount false).openCount = .wrote false ∧
    (encodeState.setOpenCount false).phase.written = true ∧ (encodeState.setOpenCount false).phase ≠ .wrote .idle :=
  ⟨⟨rfl, by decide⟩, rfl, rfl, rfl, by decide⟩
/-- READY with one request scheduled. -/
def withRequest (r : Request) : State := { readyState with schedule := [.request r] }

theorem witness_ReservedOpFaults :
    (withRequest reservedRequest).faults = [] ∧
      (withRequest reservedRequest).schedule = [.request reservedRequest] ∧
      reservedRequest.caller ∉ (withRequest reservedRequest).await ∧
      reservedRequest.caller.wf Config.nCallers = true ∧ reservedRequest.op = 0b111#3 :=
  ⟨rfl, rfl, by decide, rfl, rfl⟩

theorem witness_UnwrittenReadFaults_openCount :
    CanIssue { State.reset with life := .ready } (.host 0) ∧
      ({ State.reset with life := .ready } : State).openCount.written = false :=
  ⟨⟨rfl, by decide⟩, rfl⟩
theorem witness_UnwrittenReadFaults_phase :
    CanIssue { openState with phase := .blank .idle } (.host 0) ∧
      ({ openState with phase := .blank .idle } : State).life = .ready ∧
      ({ openState with phase := .blank .idle } : State).openCount.written = true ∧
      ({ openState with phase := .blank .idle } : State).openCount.held = true ∧
      ({ openState with phase := .blank .idle } : State).phase.written = false := ⟨⟨rfl, by decide⟩, rfl, rfl, rfl, rfl⟩
theorem witness_DisabledOperationsStop :
    (requester (.readReq (.host 0) 1) = some (.host 0) ∧ encodeState.faults = [] ∧
      Caller.host 0 ∈ encodeState.await ∧ encodeState.phase ≠ .wrote .send) ∧
    ((holdAt 0 0).faults = [] ∧ (holdAt 0 0).holding ≠ .wrote false ∧ (sendAt 0 0 0).holding ≠ .wrote true) := by
  decide
theorem witness_DisabledOperationsStop_emit :
    ({ sendAt 0 0 0 with lineOwned := false } : State).faults = [] ∧
      ({ sendAt 0 0 0 with lineOwned := false } : State).phase = .wrote .send ∧
      ({ sendAt 0 0 0 with lineOwned := false } : State).holding = .wrote false ∧
      ({ sendAt 0 0 0 with lineOwned := false } : State).lineOwned = false := ⟨rfl, rfl, rfl, rfl⟩
theorem witness_DisabledOperationsStop_position :
    (sendAt 1 12 2).faults = [] ∧ (sendAt 1 12 2).phase = .wrote .send ∧ (sendAt 1 12 2).holding = .wrote false ∧
      (sendAt 1 12 2).lineOwned = true ∧ (sendAt 1 12 2).symIdx.written = true ∧
      (sendAt 1 12 2).stepIdx.written = true ∧ (sendAt 1 12 2).period.written = true ∧
      slotWritten (sendAt 1 12 2) = true ∧ 12 ≤ (sendAt 1 12 2).symIdx.held ∧
      2 ≤ (sendAt 1 12 2).stepIdx.held ∧ (sendAt 1 0 0).symIdx.held ≠ 12 := by decide
theorem witness_UnusedCodesStop_position :
    (sendAt 0 13 0).faults = [] ∧ (sendAt 0 13 0).schedule = [] ∧ (sendAt 0 13 0).phase = .wrote .send ∧
      (sendAt 0 13 0).holding = .wrote false ∧ (sendAt 0 13 0).symIdx.written = true ∧
      (sendAt 0 13 0).stepIdx.written = true ∧ 12 < (sendAt 0 13 0).symIdx.held := by decide
theorem witness_UnusedCodesStop_caller (r : Request) (h : r = ⟨0b001#3, .host Config.nCallers, 0, []⟩) :
    (withRequest r).faults = [] ∧ (withRequest r).schedule = [.request r] ∧ r.caller ∉ (withRequest r).await ∧
      r.caller.wf Config.nCallers = false := by
  subst h
  exact ⟨rfl, rfl, by simp [withRequest, readyState, State.reset, Block.powerOn],
    Bool.eq_false_iff.mpr (by simp [Caller.wf, Nat.blt_eq])⟩
theorem witness_UnusedCodesStop_buffer (r : Request) (h : r = ⟨0b100#3, .host 0, 4, [1, 2, 3]⟩) :
    (withRequest r).faults = [] ∧ (withRequest r).schedule = [.request r] ∧ r.caller ∉ (withRequest r).await ∧
      r.caller.wf Config.nCallers = true ∧ r.op = 0b100#3 ∧ r.buf.length ≠ r.len := by
  subst h
  exact ⟨rfl, rfl, by decide, rfl, rfl, by decide⟩
theorem witness_UnwrittenReadFaults_cmd :
    ({ readyState with phase := .wrote .encode } : State).faults = [] ∧
      ({ readyState with phase := .wrote .encode } : State).cmd.written = false := ⟨rfl, rfl⟩
/-- SEND on an owned line with every datapath register unwritten, a hold running or not. -/
def bareSend (hold : Bool) : State := { readyState with phase := .wrote .send, holding := .wrote hold }

/-- SYMIDX, STEP, PERIOD and WORK unwritten at EMIT, and the selection in `step`. -/
theorem witness_UnwrittenReadFaults_emit :
    (bareSend false).faults = [] ∧ (bareSend false).lineOwned = true ∧ (bareSend false).phase = .wrote .send ∧
      (bareSend false).holding = .wrote false ∧ (bareSend false).schedule = [] ∧
      (bareSend false).symIdx.written = false ∧ (bareSend false).stepIdx.written = false ∧
      (bareSend false).period.written = false ∧ (bareSend false).stepIdx.held = 0 ∧
      (bareSend false).work.written = false := by decide
/-- SYM unwritten at STEP 3, the position written. -/
theorem witness_UnwrittenReadFaults_sym (s : State) (h : s = { sendState with stepIdx := .wrote 3 }) :
    s.faults = [] ∧ s.lineOwned = true ∧ s.phase = .wrote .send ∧ s.holding = .wrote false ∧
      s.stepIdx.held ≠ 0 ∧ s.sym.written = false ∧ s.symIdx.held < 12 ∧ slotWritten s = false := by
  subst h; decide
theorem witness_UnwrittenReadFaults_expire :
    (bareSend true).faults = [] ∧ (bareSend true).phase = .wrote .send ∧ (bareSend true).holding = .wrote true ∧
      (bareSend true).holdNom.written = false ∧ (bareSend true).symIdx.written = false ∧
      (bareSend true).stepIdx.written = false := by decide
/-- REP_LEFT, ACC and, with REP_LEFT 1, WRITER unwritten at the end of a frame. -/
theorem witness_UnwrittenReadFaults_frame (n : BitVec 8) (s : State)
    (h : s = { bareSend true with symIdx := .wrote 12, stepIdx := .wrote 1, repLeft := .blank n, writer := .blank none }) :
    s.faults = [] ∧ s.phase = .wrote .send ∧ s.holding = .wrote true ∧ 12 ≤ s.symIdx.held ∧ s.stepIdx.held ≠ 0 ∧
      s.repLeft.written = false ∧ s.repLeft.held = n ∧ s.acc.written = false ∧ s.writer.written = false := by
  subst h
  exact ⟨rfl, rfl, rfl, (by decide : 12#4 ≤ 12#4), (by decide : 1#2 ≠ 0#2), rfl, rfl, rfl, rfl⟩
theorem witness_UnwrittenReadFaults_selection (s : State) (h : s = { bareSend false with holding := .blank false }) :
    s.faults = [] ∧ s.phase = .wrote .send ∧ s.holding.written = false ∧ s.schedule = [] := by
  subst h; decide
/-- Seen from a state whose writer is blocked, its request at the head of the schedule. -/
theorem witness_UnwrittenReadFaults_blocked (s : State) (r : Request) (hr : r = ⟨0b001#3, .host 0, 0, []⟩)
    (h : s = { sendState with holding := .blank false, schedule := [.request r] }) :
    s.faults = [] ∧ s.phase = .wrote .send ∧ s.holding.written = false ∧ s.schedule = [.request r] ∧
      r.caller ∈ s.await := by
  subst hr; subst h; decide

theorem witness_SymZeroEmits : EmitsSymbol (sendAt 0 0 0) 0 ∧ EmitsSymbol (sendAt 0 11 3) 0 :=
  ⟨⟨rfl, rfl, rfl, rfl, by decide, by decide, by decide⟩, ⟨rfl, rfl, rfl, rfl, by decide, by decide, by decide⟩⟩
theorem witness_SymOneEmits : EmitsSymbol (sendAt 1 0 1) 1 ∧ EmitsSymbol (sendAt 1 11 2) 1 :=
  ⟨⟨rfl, rfl, rfl, rfl, by decide, by decide, by decide⟩, ⟨rfl, rfl, rfl, rfl, by decide, by decide, by decide⟩⟩
theorem witness_SymTwoEmits : EmitsSymbol (sendAt 2 0 0) 2 ∧ EmitsSymbol (sendAt 2 11 3) 2 :=
  ⟨⟨rfl, rfl, rfl, rfl, by decide, by decide, by decide⟩, ⟨rfl, rfl, rfl, rfl, by decide, by decide, by decide⟩⟩
/-- Every `STEP` of every symbol is met by some state. -/
theorem witness_symbol_steps : ∀ (code k : BitVec 2), (sendAt code 5 k).stepIdx.held = k ∧
    slotWritten (sendAt code 5 k) = true ∧ slotCode (sendAt code 5 k) = code := by decide
theorem witness_TermEmits : EmitsTerm (sendAt 0 12 0) ∧ EmitsTerm (sendAt 0 12 1) :=
  ⟨⟨rfl, rfl, rfl, rfl, by decide, by decide⟩, ⟨rfl, rfl, rfl, rfl, by decide, by decide⟩⟩
theorem witness_EmitByPosition : (sendAt 3 0 0).faults = [] ∧ (sendAt 3 0 0).schedule = [] ∧
    (sendAt 3 0 0).lineOwned = true ∧ (sendAt 3 0 0).phase = .wrote .send ∧
    (sendAt 3 0 0).holding = .wrote false ∧ (sendAt 3 0 0).period.written = true ∧
    slotCode (sendAt 3 0 0) = 3 ∧ slotCode (sendAt 2 11 1) ≠ 3 ∧
    (symbolPulses 2)[1]? = some (false, 3) ∧ (sendAt 3 12 0).symIdx.held = 12 := by decide
theorem witness_ExpireAdvances_symbol : HoldEnds (holdAt 0 0) ∧ HoldEnds (holdAt 11 2) ∧ HoldEnds (holdAt 11 3) :=
  ⟨⟨rfl, rfl, rfl, by decide⟩, ⟨rfl, rfl, rfl, by decide⟩, ⟨rfl, rfl, rfl, by decide⟩⟩
theorem witness_ExpireAdvances_gap : HoldEnds (holdAt 12 0) ∧ HoldEnds (holdAt 12 1) ∧
    (holdAt 12 1).repLeft.written = true ∧ (holdAt 12 1).repLeft.held ≠ 1 ∧ (holdAt 12 1).acc.written = true :=
  ⟨⟨rfl, rfl, rfl, by decide⟩, ⟨rfl, rfl, rfl, by decide⟩, rfl, by decide, rfl⟩
theorem witness_ExpireAdvances_end : HoldEnds { holdAt 12 1 with repLeft := .wrote 1 } ∧
    (holdAt 12 1).writer = .wrote (some (.host 0)) := ⟨⟨rfl, rfl, rfl, by decide⟩, rfl⟩
theorem witness_DriftBound : Elapsed ⟨true, 350, some 350⟩ :=
  ⟨350, rfl, Nat.sub_le 350 Config.tolUs, Nat.le_add_right 350 Config.tolUs⟩
theorem witness_TransmissionSendsTelegram : AboutToSend encodeState 0x00900005#32 (.host 0) :=
  ⟨rfl, rfl, rfl, rfl, rfl, rfl⟩
theorem witness_NominalHoldFits : nominalHold 31 511 = 15841 := by decide

theorem witness_StepRunsDecoded_request (r : Request) (h : r = ⟨0b001#3, .host 0, 0, []⟩) :
    decode (.request r) = .ok (.openReq (.host 0) 0) ∧ (Instr.openReq (.host 0) 0).wf Config.nCallers = true ∧
      (withRequest r).faults = [] ∧ (withRequest r).schedule = [.request r] ∧
      r.caller ∉ (withRequest r).await := by
  subst h
  exact ⟨rfl, rfl, rfl, rfl, by decide⟩
theorem witness_StepRunsDecoded_transmit :
    encodeState.faults = [] ∧ txSelect encodeState = .code (.phase 0b01#2) ∧ encodeState.schedule = [] ∧
      Caller.host 0 ∈ encodeState.await := by decide
theorem witness_IdleWaits : readyState.faults = [] ∧ readyState.schedule = [] ∧
    readyState.phase ≠ .wrote .encode ∧ readyState.phase ≠ .wrote .send := by decide
theorem witness_FaultedIsQuiescent : faultedState.faults ≠ [] := by decide
theorem witness_FaultsOnlyGrow : ∃ t, step encodeState = .next t := ⟨_, rfl⟩
theorem witness_FaultChangesNothingElse :
    ∃ t, exec (.closeReq (.host 0) 0) readyState = .next t ∧ t.faults ≠ [] := ⟨_, rfl, by decide⟩
theorem witness_LineOnlyByEmit : ∃ t, exec .sym0 (sendAt 0 0 0) = .next t ∧ t.line ≠ (sendAt 0 0 0).line :=
  ⟨_, rfl, by decide⟩
theorem witness_CmdOnlyByWrite :
    ∃ t, exec (.writeReq (.host 0) [1, 2, 3, 4]) openState = .next t ∧ t.cmd ≠ openState.cmd :=
  ⟨_, rfl, by decide⟩
theorem witness_LifeMovesForward :
    ∃ t, exec (.shutdownReq .lc 0) readyState = .next t ∧ t.life ≠ readyState.life := ⟨_, rfl, by decide⟩
theorem witness_OpenCountMoves :
    (∃ t, exec (.openReq .lc 0) readyState = .next t ∧ t.openCount ≠ readyState.openCount) ∧
      ∃ t, exec (.closeReq .lc 0) openState = .next t ∧ t.openCount ≠ openState.openCount :=
  ⟨⟨_, rfl, by decide⟩, ⟨_, rfl, by decide⟩⟩
theorem witness_TimeOnlyInHolds :
    (∃ t, exec .term (sendAt 0 12 0) = .next t ∧ t.trace ≠ (sendAt 0 12 0).trace) ∧
      ∃ t, exec .expire (holdAt 0 0) = .next t := ⟨⟨_, rfl, by decide⟩, ⟨_, rfl⟩⟩
theorem witness_ResponsesOneAtATime :
    ∃ t, exec (.readReq (.host 0) 1) openState = .next t ∧ t.responses ≠ openState.responses :=
  ⟨_, rfl, by decide⟩
theorem witness_ResponsesOneAtATime_expire :
    ∃ t, exec .expire { holdAt 12 1 with repLeft := .wrote 1 } = .next t ∧
      t.responses = [⟨.host 0, .ok, 4⟩] := ⟨_, rfl, rfl⟩
theorem witness_ErrorResponsesChangeNothing :
    (∃ t, exec (.openReq (.host 1) 0) openState = .next t ∧
      t.responses = openState.responses ++ [⟨.host 1, .busy, 0⟩]) ∧
    ∃ t, exec (.writeReq (.host 1) []) openState = .next t ∧
      t.responses = openState.responses ++ [⟨.host 1, .invalidLength, 0⟩] :=
  ⟨⟨_, rfl, rfl⟩, ⟨_, rfl, rfl⟩⟩
theorem witness_NoCancellation : requester (.closeReq (.host 1) 0) = some (.host 1) ∧ sendState.life = .ready ∧
    sendState.phase = .wrote .send ∧ ∃ t, exec (.closeReq (.host 1) 0) sendState = .next t :=
  ⟨rfl, rfl, rfl, ⟨_, rfl⟩⟩
theorem witness_SessionIsExclusive : CanIssue readyState (.host 0) ∧ CanIssue readyState (.host 1) ∧
    readyState.life = .ready ∧ readyState.openCount = .wrote false :=
  ⟨⟨rfl, by decide⟩, ⟨rfl, by decide⟩, rfl, rfl⟩
theorem witness_SessionFrames :
    (∃ t, exec (.openReq (.host 1) 0) sendState = .next t) ∧
      (∃ t, exec (.readReq (.host 1) 0) sendState = .next t) ∧
      ∃ t, exec (.shutdownReq .lc 0) readyState = .next t := ⟨⟨_, rfl⟩, ⟨_, rfl⟩, ⟨_, rfl⟩⟩
theorem witness_StartupAndWriteFrames :
    (∃ t, exec (.startupReq .lc 0) State.reset = .next t) ∧
      ∃ t, exec (.writeReq (.host 0) [1, 2, 3, 4]) openState = .next t := ⟨⟨_, rfl⟩, ⟨_, rfl⟩⟩
theorem witness_EncodeAndEmitFrames :
    (∃ t, exec .encode encodeState = .next t) ∧ (∃ t, exec .sym0 (sendAt 0 0 0) = .next t) ∧
      (∃ t, exec .sym1 (sendAt 1 0 3) = .next t) ∧ (∃ t, exec .sym2 (sendAt 2 11 0) = .next t) ∧
      ∃ t, exec .term (sendAt 0 12 1) = .next t := ⟨⟨_, rfl⟩, ⟨_, rfl⟩, ⟨_, rfl⟩, ⟨_, rfl⟩, ⟨_, rfl⟩⟩
theorem witness_ExpireFrame :
    (∃ t, exec .expire (holdAt 12 0) = .next t) ∧ ∃ t, exec .expire (holdAt 12 1) = .next t :=
  ⟨⟨_, rfl⟩, ⟨_, rfl⟩⟩

/-- A state in the middle of a transmission that meets both invariants, with a next state. -/
theorem witness_InvariantsKept : Inv encodeState ∧ TraceInv encodeState ∧ ∃ t, step encodeState = .next t := by
  refine ⟨⟨by decide, by decide, by decide, by decide, by decide, by decide, ?_, by decide, ?_, by decide, by decide,
    ?_, ?_, by decide⟩, ⟨rfl, ?_, ?_⟩, ⟨_, rfl⟩⟩
  · intro h; exact absurd h (by decide)
  · exact ⟨fun j _ => by simp [encodeState, openState, readyState, State.reset, Block.powerOn, slot],
      fun j _ => by simp [encodeState, openState, readyState, State.reset, Block.powerOn, slot], by decide⟩
  · intro c h
    have : c = .host 0 := by
      simpa [encodeState, eq_comm] using h
    subst this; decide
  · intro _ c h
    have : c = .host 0 := by
      simpa [encodeState, openState, readyState, State.reset, Block.powerOn, awaitInsert] using h
    subst this; rfl
  · intro h; exact absurd h (by decide)
  · intro _ y hy; simp [encodeState, openState, readyState, State.reset, Block.powerOn] at hy
theorem witness_AwaitStaysCanonical : AwaitWf encodeState.await ∧ ∃ t, step encodeState = .next t :=
  ⟨by decide, ⟨_, rfl⟩⟩
theorem witness_TraceInvariantKept : Inv encodeState ∧ TraceInv encodeState ∧ ∃ t, step encodeState = .next t :=
  witness_InvariantsKept
theorem witness_NeverStuck : Inv encodeState ∧ encodeState.faults = [] ∧
    ∀ r rest, encodeState.schedule = .request r :: rest → r.wf Config.nCallers = true :=
  ⟨witness_InvariantsKept.1, rfl, fun _ _ h => absurd h (by simp [encodeState, openState, readyState, State.reset])⟩

end Sys2Proof.Machine
end

/-! # Holds and the trace

The window of a hold (R13, R134, R135), what a step can do, and the agreement of NOW and TRACE (R28, R34). -/

namespace Sys2Proof.Machine

/-! ## The hold window -/

/-- Folding the free draw modulo the window's width keeps it inside the window (R13). -/
theorem inWindow_holdDuration (n k : Nat) : InWindow n (holdDuration n k) := by
  have hfold : Config.holdDraw k % (n + Config.tolUs - (n - Config.tolUs) + 1) <
      n + Config.tolUs - (n - Config.tolUs) + 1 := Nat.mod_lt _ (Nat.succ_pos _)
  unfold InWindow holdDuration
  omega

/-- A window of half-width 0 holds its nominal duration alone (R13). -/
theorem InWindow.eq_of_tolUs_eq_zero {n d : Nat} (h : InWindow n d) (h0 : Config.tolUs = 0) : d = n := by
  unfold InWindow at h
  omega

/-- Settles O27: the draw is folded into the window, and a window of half-width 0 is one point. -/
theorem holdInWindow : Obligations.HoldInWindow := fun n k =>
  ⟨inWindow_holdDuration n k, (inWindow_holdDuration n k).eq_of_tolUs_eq_zero⟩

/-- Settles O29: the upper end of T's window reaches the lower end of 3T's exactly when 2T lies in both. -/
theorem windowsOverlap : Obligations.WindowsOverlap := by
  unfold Obligations.WindowsOverlap InWindow
  intro t
  constructor
  · rintro ⟨d, ⟨-, hd⟩, hd', -⟩
    omega
  · intro ht
    refine ⟨2 * t, ⟨?_, ?_⟩, ?_, ?_⟩ <;> omega

/-- Settles O30, by induction on the holds: each one adds at most one tolerance to the drift. -/
theorem driftBound : Obligations.DriftBound := by
  unfold Obligations.DriftBound
  intro l hl
  induction l with
  | nil => simp
  | cons x xs ih =>
    obtain ⟨⟨d, hd, hlow, hhigh⟩, hxs⟩ := List.forall_mem_cons.mp hl
    obtain ⟨ihHigh, ihLow⟩ := ih hxs
    simp only [List.map_cons, List.sum_cons, List.length_cons, hd, Option.getD_some, Nat.succ_mul]
    constructor <;> omega

/-! ## What a step can do -/

/-- A Transmitter selection without a value changes the schedule at most (R35). -/
theorem fetch_noValue {s u : State} (h : fetch s = .noValue u) :
    s.faults = [] ∧ (u = s ∨ u = s.dropMove) := by
  unfold fetch fetchTransmit at h
  split at h
  · simp at h
  · rename_i hf
    refine ⟨by simpa using hf, ?_⟩
    split at h
    · split at h <;> simp_all
    · split at h
      · split at h <;> simp_all
      · simp at h
    · split at h <;> simp_all

/-- A move the Transmitter has no step for is taken off the schedule. -/
theorem fetch_pass {s u : State} (h : fetch s = .pass u) : s.faults = [] ∧ u = s.dropMove := by
  unfold fetch fetchTransmit at h
  split at h
  · simp at h
  · rename_i hf
    refine ⟨by simpa using hf, ?_⟩
    split at h
    · split at h <;> simp at h
    · split at h
      · split at h <;> simp at h
      · simp at h
    · split at h <;> simp_all

/-- What a step that answers a next state has done: it waited, it passed over a move, it found no value to select by, or it
ran the encoding that `fetch` names. -/
theorem step_next {s t : State} (h : step s = .next t) :
    t = s ∨ t = s.dropMove ∨
      (∃ u, fetch s = .noValue u ∧ t = u.raiseFault .unwritten (.step .emit)) ∨
      ∃ e u, fetch s = .code e u ∧ runCode e u = .next t := by
  unfold step at h
  generalize hf : fetch s = f at h
  cases f with
  | quiescent => simp [runFetched] at h
  | wait => exact .inl (by simpa [runFetched] using h.symm)
  | pass u =>
    have ht : t = u := by simpa [runFetched] using h.symm
    exact .inr (.inl (ht.trans (fetch_pass hf).2))
  | noValue u => exact .inr (.inr (.inl ⟨u, rfl, by simpa [runFetched] using h.symm⟩))
  | code e u => exact .inr (.inr (.inr ⟨e, u, rfl, h⟩))

/-- A rejected encoding that answers a next state has recorded a fault, at the request port or in EMIT (R94, R85, R35). -/
theorem execRejected_next {err : DecodeError} {e : Encoding} {s t : State}
    (h : execRejected err e s = .next t) :
    (∃ r, e = .request r ∧ r.caller ∉ s.await ∧
      t = (s.issue r.caller).raiseFault .reservedOp (.request r.op r.caller r.len)) ∨
    (err = .symbolThree ∧ ∃ code, t = s.raiseFault code (.step .emit)) := by
  unfold execRejected at h
  split at h
  · rename_i r
    obtain ⟨-, hc, hk⟩ := atPort_next h
    exact .inl ⟨r, rfl, hc, by simpa using hk.symm⟩
  · simp at h
  · obtain ⟨-, -, -, -, ⟨-, -, hk⟩ | hk⟩ := whenEmitting_next h
    · exact .inr ⟨rfl, .symbolThree, by simpa using hk.symm⟩
    · exact .inr ⟨rfl, .unwritten, hk⟩
  · simp at h

/-- An encoding that answers a next state belongs to an existing agent, and is decoded and executed or is rejected. -/
theorem runCode_next {e : Encoding} {s t : State} (h : runCode e s = .next t) :
    e.callerExists Config.nCallers = true ∧
      ((∃ i, decode e = .ok i ∧ exec i s = .next t) ∨
        ∃ err, decode e = .rejected err ∧ execRejected err e s = .next t) := by
  unfold runCode at h
  split at h
  · rename_i hc
    refine ⟨hc, ?_⟩
    split at h
    · rename_i i hi; exact .inl ⟨i, hi, h⟩
    · rename_i err he; exact .inr ⟨err, he, h⟩
  · simp at h

/-! ## Updates that leave the trace invariant as it was -/

/-- The trace invariant speaks of TRACE, NOW, HOLDING and HOLD_NOM alone. -/
theorem TraceInv.of_same {s t : State} (hi : TraceInv s) (htrace : t.trace = s.trace) (hnow : t.now = s.now)
    (hholding : t.holding = s.holding) (hnom : t.holdNom = s.holdNom) : TraceInv t where
  sum := by rw [htrace, hnow]; exact hi.sum
  running := by rw [hholding, htrace, hnom]; exact hi.running
  resting := by rw [hholding, htrace]; exact hi.resting

theorem traceInv_congr {s t : State} (htrace : t.trace = s.trace) (hnow : t.now = s.now)
    (hholding : t.holding = s.holding) (hnom : t.holdNom = s.holdNom) : TraceInv t ↔ TraceInv s :=
  ⟨fun hi => hi.of_same htrace.symm hnow.symm hholding.symm hnom.symm,
    fun hi => hi.of_same htrace hnow hholding hnom⟩

@[simp] theorem traceInv_issue (s : State) (c : Caller) : TraceInv (s.issue c) ↔ TraceInv s :=
  traceInv_congr rfl rfl rfl rfl

@[simp] theorem traceInv_respond (s : State) (c : Caller) (st : Status) (v : BitVec 32) :
    TraceInv (s.respond c st v) ↔ TraceInv s :=
  traceInv_congr rfl rfl rfl rfl

@[simp] theorem traceInv_raiseFault (s : State) (code : FaultCode) (q : Cause) :
    TraceInv (s.raiseFault code q) ↔ TraceInv s :=
  traceInv_congr rfl rfl rfl rfl

@[simp] theorem traceInv_setOpenCount (s : State) (v : Bool) : TraceInv (s.setOpenCount v) ↔ TraceInv s :=
  traceInv_congr rfl rfl rfl rfl

@[simp] theorem traceInv_becomeFailed (s : State) : TraceInv s.becomeFailed ↔ TraceInv s :=
  traceInv_congr rfl rfl rfl rfl

@[simp] theorem traceInv_releaseLine (s : State) : TraceInv s.releaseLine ↔ TraceInv s :=
  traceInv_congr rfl rfl rfl rfl

@[simp] theorem traceInv_latch (s : State) (c : Caller) (w : Word) : TraceInv (s.latch c w) ↔ TraceInv s :=
  traceInv_congr rfl rfl rfl rfl

@[simp] theorem traceInv_setPosition (s : State) (idx : BitVec 4) (k : BitVec 2) :
    TraceInv (s.setPosition idx k) ↔ TraceInv s :=
  traceInv_congr rfl rfl rfl rfl

@[simp] theorem traceInv_countFrame (s : State) : TraceInv s.countFrame ↔ TraceInv s :=
  traceInv_congr rfl rfl rfl rfl

@[simp] theorem traceInv_reloadWork (s : State) : TraceInv s.reloadWork ↔ TraceInv s :=
  traceInv_congr rfl rfl rfl rfl

@[simp] theorem traceInv_goIdle (s : State) : TraceInv s.goIdle ↔ TraceInv s :=
  traceInv_congr rfl rfl rfl rfl

@[simp] theorem traceInv_dropMove (s : State) : TraceInv s.dropMove ↔ TraceInv s :=
  traceInv_congr rfl rfl rfl rfl

@[simp] theorem traceInv_takeSymbol (s : State) : TraceInv (takeSymbol s) ↔ TraceInv s :=
  traceInv_congr (by simp) (by simp) (by simp) (by simp)

@[simp] theorem traceInv_finishTransmission (s : State) : TraceInv (finishTransmission s) ↔ TraceInv s := by
  rcases finishTransmission_cases s with ⟨c, -, h⟩ | ⟨-, h⟩ <;> simp [h]

/-- ADVANCE moves the sequencer; the hold it follows is over (R90). -/
@[simp] theorem traceInv_advance (s : State) : TraceInv (advance s) ↔ TraceInv s := by
  rcases advance_cases s with ⟨-, -, h⟩ | ⟨-, -, h⟩ | ⟨-, -, h⟩ | ⟨-, -, -, h⟩ | ⟨-, -, -, h⟩ <;> simp [h]

/-! ## Updates that write HOLDING -/

/-- Where no hold runs, a step that leaves none running keeps the invariant with TRACE and NOW. -/
theorem TraceInv.of_resting {s t : State} (hi : TraceInv s) (hs : s.holding ≠ .wrote true)
    (ht : t.holding ≠ .wrote true) (htrace : t.trace = s.trace) (hnow : t.now = s.now) : TraceInv t where
  sum := by rw [htrace, hnow]; exact hi.sum
  running h := absurd h ht
  resting _ := by rw [htrace]; exact hi.resting hs

/-- A nominal hold of at most 31 periods fits the 14 bits of HOLD_NOM (R28). -/
theorem nominalHold_lt {m : Nat} (hm : m ≤ 31) (t : BitVec 9) : nominalHold m t < 2 ^ 14 :=
  calc m * t.toNat ≤ 31 * 511 := Nat.mul_le_mul hm (Nat.le_of_lt_succ t.isLt)
    _ < 2 ^ 14 := by decide

/-- R88: the transition that EMIT appends is the pending one, and HOLD_NOM holds its nominal duration. -/
theorem TraceInv.drive {s : State} (hi : TraceInv s) (hs : s.holding = .wrote false) (high : Bool) {m : Nat}
    (hm : m ≤ 31) : TraceInv (s.drive high m) where
  sum := by simpa using hi.sum
  running _ := by
    refine ⟨s.trace, _, rfl, rfl, ?_, hi.resting (by simp [hs])⟩
    rw [drive_holdNom, Reg.wrote_held, BitVec.toNat_ofNat, Nat.mod_eq_of_lt (nominalHold_lt hm _)]
  resting h := absurd rfl h

/-- R89: EXPIRE gives the pending transition the drawn duration, which lies in its window, and adds it to NOW. -/
theorem TraceInv.elapse {s : State} (hi : TraceInv s) (hs : s.holding = .wrote true) :
    TraceInv (s.elapse (holdDuration s.holdNom.held.toNat s.draws)) := by
  obtain ⟨done, x, htrace, hpending, hnominal, hdone⟩ := hi.running hs
  refine ⟨?_, fun h => by simp at h, fun _ y hy => ?_⟩
  · have hsum := hi.sum
    simp only [htrace, List.map_append, List.map_cons, List.map_nil, List.sum_append, hpending] at hsum
    simp [htrace, setLastActual_append, hsum]
  · rw [elapse_trace, htrace, setLastActual_append, List.mem_append, List.mem_singleton] at hy
    rcases hy with hy | rfl
    · exact hdone y hy
    · exact ⟨_, rfl, hnominal ▸ inWindow_holdDuration _ _⟩

/-! ## The operations keep the trace invariant -/

/-- A running hold belongs to a transmission of a READY block (R18, R28). -/
theorem Inv.sending_of_holding {s : State} (hi : Inv s) (h : s.holding = .wrote true) :
    s.phase = .wrote .send ∧ s.life = .ready := by
  have hp := (hi.hold h).1
  refine ⟨hp, by_contra fun hl => ?_⟩
  rcases hi.notReady hl with hw | hidle
  · simp [hp] at hw
  · simp [hp] at hidle

/-- EMIT of a symbol starts at most one hold, of at most 31 periods. -/
theorem traceInv_of_emitSymbol {code : BitVec 2} {pulses : List (Bool × Nat)} {s t : State}
    (hm : ∀ p ∈ pulses, p.2 ≤ 31) (hi : TraceInv s) (h : emitSymbol code pulses s = .next t) : TraceInv t := by
  obtain ⟨-, -, hh, -, ⟨-, -, -, -, high, m, hp, rfl⟩ | rfl⟩ := emitSymbol_next h
  · exact ((traceInv_takeSymbol s).mpr hi).drive (by simpa using hh) high (hm _ (List.mem_of_getElem? hp))
  · simpa using hi

theorem traceInv_of_execTerm {s t : State} (hi : TraceInv s) (h : execTerm s = .next t) : TraceInv t := by
  obtain ⟨-, -, hh, -, ⟨-, -, high, m, hp, rfl⟩ | rfl⟩ := execTerm_next h
  · have hm : ∀ p ∈ pulseTerm, p.2 ≤ 31 := by decide
    exact hi.drive hh high (hm _ (List.mem_of_getElem? hp))
  · simpa using hi

theorem traceInv_of_execExpire {s t : State} (hi : TraceInv s) (h : execExpire s = .next t) : TraceInv t := by
  obtain ⟨-, -, hh, ⟨-, rfl⟩ | rfl⟩ := execExpire_next h
  · exact (traceInv_advance _).mpr (hi.elapse hh)
  · simpa using hi

/-- ENCODE clears HOLDING where no hold runs (R77). -/
theorem traceInv_of_execEncode {s t : State} (hs : s.holding = .wrote true → s.phase = .wrote .send)
    (hi : TraceInv s) (h : execEncode s = .next t) : TraceInv t := by
  obtain ⟨-, hp, ⟨-, rfl⟩ | rfl⟩ := execEncode_next h
  · exact hi.of_resting (fun hh => by simp [hs hh] at hp) (by simp) rfl rfl
  · simpa using hi

/-- STARTUP clears HOLDING where no hold runs (R95). -/
theorem traceInv_of_execStartupReq {c : Caller} {len : Nat} {s t : State}
    (hs : s.holding = .wrote true → s.life = .ready) (hi : TraceInv s)
    (h : execStartupReq c len s = .next t) : TraceInv t := by
  obtain ⟨-, -, ⟨hl, rfl⟩ | ⟨-, rfl⟩ | ⟨-, rfl⟩⟩ := execStartupReq_next h
  · exact hi.of_resting (fun hh => by simp [hs hh] at hl) (by simp) rfl rfl
  · simpa using hi
  · simpa using hi

/-- Every operation keeps the trace invariant, where a hold runs only in a transmission of a READY block. -/
theorem traceInv_of_exec {i : Instr} {s t : State}
    (hs : s.holding = .wrote true → s.phase = .wrote .send ∧ s.life = .ready) (hi : TraceInv s)
    (h : exec i s = .next t) : TraceInv t := by
  cases i with
  | openReq c len =>
    obtain ⟨-, -, ⟨-, -, rfl⟩ | ⟨-, -, rfl⟩ | ⟨code, -, -, rfl⟩⟩ := execOpenReq_next h <;> simpa using hi
  | closeReq c len =>
    obtain ⟨-, -, ⟨-, -, rfl⟩ | ⟨code, -, -, rfl⟩⟩ := execCloseReq_next h <;> simpa using hi
  | readReq c len =>
    obtain ⟨-, -, ⟨-, -, rfl⟩ | ⟨code, -, -, rfl⟩⟩ := execReadReq_next h <;> simpa using hi
  | writeReq c buf =>
    obtain ⟨-, -, ⟨-, -, -, rfl⟩ | ⟨b0, b1, b2, b3, -, -, -, -, rfl⟩ | ⟨code, q, -, -, rfl⟩⟩ :=
      execWriteReq_next h <;> simpa using hi
  | startupReq c len => exact traceInv_of_execStartupReq (fun hh => (hs hh).2) hi h
  | shutdownReq c len =>
    obtain ⟨-, -, ⟨-, -, -, rfl⟩ | ⟨code, -, -, rfl⟩⟩ := execShutdownReq_next h <;> simpa using hi
  | encode => exact traceInv_of_execEncode (fun hh => (hs hh).1) hi h
  | sym0 => exact traceInv_of_emitSymbol (pulses := pulse0) (by decide) hi h
  | sym1 => exact traceInv_of_emitSymbol (pulses := pulse1) (by decide) hi h
  | sym2 => exact traceInv_of_emitSymbol (pulses := pulse2) (by decide) hi h
  | term => exact traceInv_of_execTerm hi h
  | expire => exact traceInv_of_execExpire hi h

/-- Running an encoding keeps the trace invariant, whether the decoder reads it or rejects it. -/
theorem traceInv_of_runCode {e : Encoding} {s t : State}
    (hs : s.holding = .wrote true → s.phase = .wrote .send ∧ s.life = .ready) (hi : TraceInv s)
    (h : runCode e s = .next t) : TraceInv t := by
  obtain ⟨-, ⟨i, -, hk⟩ | ⟨err, -, hk⟩⟩ := runCode_next h
  · exact traceInv_of_exec hs hi hk
  · obtain ⟨r, -, -, rfl⟩ | ⟨-, code, rfl⟩ := execRejected_next hk <;> simpa using hi

/-- Settles O55, by what a step can do: it starts a hold where none runs, ends the one that runs with a duration of its
window, or leaves NOW, TRACE and the running hold alone. -/
theorem traceInvariantKept : Obligations.TraceInvariantKept := by
  intro s t hInv hi h
  obtain rfl | rfl | ⟨u, hf, rfl⟩ | ⟨e, u, hf, hk⟩ := step_next h
  · exact hi
  · simpa using hi
  · obtain ⟨-, rfl | rfl⟩ := fetch_noValue hf <;> simpa using hi
  · obtain ⟨-, rfl | rfl, -⟩ := fetch_code hf
    · exact traceInv_of_runCode hInv.sending_of_holding hi hk
    · exact traceInv_of_runCode (s := s.dropMove) hInv.sending_of_holding (by simpa using hi) hk

end Sys2Proof.Machine

/-! # What an operation has done

One inductive relation says what every operation does when it answers a next state; the rules over all operations and the
invariants of a step are case analyses of it. -/

namespace Sys2Proof.Machine

/-! ## ADVANCE and the trace -/

/-- ADVANCE is built of five updates: what each of them leaves alone, ADVANCE leaves alone (R90). -/
theorem advance_keeps {α : Type} (f : State → α) (s : State)
    (hposition : ∀ u idx k, f (State.setPosition u idx k) = f u := by intros; rfl)
    (hcount : ∀ u, f (State.countFrame u) = f u := by intros; rfl)
    (hreload : ∀ u, f (State.reloadWork u) = f u := by intros; rfl)
    (hrespond : ∀ u c st v, f (State.respond u c st v) = f u := by intros; rfl)
    (hidle : ∀ u, f (State.goIdle u) = f u := by intros; rfl) : f (advance s) = f s := by
  rcases advance_cases s with ⟨-, -, h⟩ | ⟨-, -, h⟩ | ⟨-, -, h⟩ | ⟨-, -, -, h⟩ | ⟨-, -, -, h⟩
  · rw [h, hposition]
  · rw [h, hposition]
  · rw [h, hposition]
  · rcases finishTransmission_cases (s.setPosition 0 0).countFrame with ⟨c, -, hfin⟩ | ⟨-, hfin⟩
    · rw [h, hfin, hidle, hrespond, hcount, hposition]
    · rw [h, hfin, hidle, hcount, hposition]
  · rw [h, hreload, hcount, hposition]

@[simp] theorem advance_life (s : State) : (advance s).life = s.life := advance_keeps (fun u => u.life) s
@[simp] theorem advance_openCount (s : State) : (advance s).openCount = s.openCount :=
  advance_keeps (fun u => u.openCount) s
@[simp] theorem advance_cmd (s : State) : (advance s).cmd = s.cmd := advance_keeps (fun u => u.cmd) s
@[simp] theorem advance_line (s : State) : (advance s).line = s.line := advance_keeps (fun u => u.line) s
@[simp] theorem advance_trace (s : State) : (advance s).trace = s.trace := advance_keeps (fun u => u.trace) s
@[simp] theorem advance_now (s : State) : (advance s).now = s.now := advance_keeps (fun u => u.now) s
@[simp] theorem advance_faults (s : State) : (advance s).faults = s.faults := advance_keeps (fun u => u.faults) s

/-- Filling in the last actual duration adds no entry (R89). -/
@[simp] theorem setLastActual_length (d : Nat) (l : List Transition) : (setLastActual d l).length = l.length := by
  induction l using setLastActual.induct with
  | case1 => rfl
  | case2 x => rfl
  | case3 x y rest ih => simpa [setLastActual] using ih

/-- ADVANCE answers nobody, or ends the transmission: the writer has its response and is free (R90). -/
theorem advance_answers (s : State) :
    ((advance s).responses = s.responses ∧ (advance s).await = s.await) ∨
      (endsTransmission s = true ∧ (advance s).phase = .wrote .idle ∧ ∃ c, s.writer.held = some c ∧
        (advance s).responses = s.responses ++ [⟨c, .ok, 4⟩] ∧ (advance s).await = awaitErase c s.await) := by
  rcases advance_cases s with ⟨-, -, h⟩ | ⟨-, -, h⟩ | ⟨-, -, h⟩ | ⟨hidx, hstep, hrep, h⟩ | ⟨-, -, -, h⟩ <;> rw [h]
  · exact .inl ⟨rfl, rfl⟩
  · exact .inl ⟨rfl, rfl⟩
  · exact .inl ⟨rfl, rfl⟩
  · obtain ⟨c, hc, hfin⟩ | ⟨-, hfin⟩ := finishTransmission_cases (s.setPosition 0 0).countFrame <;> rw [hfin]
    · exact .inr ⟨Bool.and_eq_true_iff.mpr ⟨decide_eq_true ⟨hidx, hstep⟩, beq_iff_eq.mpr hrep⟩, rfl, c, hc,
        rfl, rfl⟩
    · exact .inl ⟨rfl, rfl⟩
  · exact .inl ⟨rfl, rfl⟩

/-! ## The effect of an operation -/

/-- What operation `i` has done in `s` to answer `t`, one constructor per effect, with what the effect needed. -/
inductive Effect (s : State) : Instr → State → Prop
  /-- A request raised a fault; its caller stays blocked (R110). -/
  | requestFault {i : Instr} {c : Caller} {code : FaultCode} (q : Cause) (hi : requester i = some c)
      (hc : c ∉ s.await) (hread : code = .unwritten →
        s.life = .ready ∧ (s.openCount.written = false ∨ s.phase.written = false))
      (hsym : code ≠ .symbolThree) : Effect s i ((s.issue c).raiseFault code q)
  /-- A Transmitter step read a register without a value (R35). -/
  | stepFault {i : Instr} (q : Cause) (hi : requester i = none) : Effect s i (s.raiseFault .unwritten q)
  /-- A request had its answer and no other effect: BUSY, zero bytes, INVALID_LENGTH (R99, R101, R103). -/
  | answer {i : Instr} {c : Caller} (st : Status) (hi : requester i = some c) (hc : c ∉ s.await) :
      Effect s i ((s.issue c).respond c st 0)
  /-- R99. -/
  | opened {c : Caller} {len : Nat} (hc : c ∉ s.await) (ho : s.openCount = .wrote false) :
      Effect s (.openReq c len) (((s.issue c).setOpenCount true).respond c .ok 0)
  /-- R100. -/
  | closed {c : Caller} {len : Nat} (hc : c ∉ s.await) (ho : s.openCount = .wrote true) :
      Effect s (.closeReq c len) (((s.issue c).setOpenCount false).respond c .ok 0)
  /-- R102. -/
  | latched {c : Caller} (b0 b1 b2 b3 : Byte) (hc : c ∉ s.await) (hl : s.life = .ready)
      (hp : s.phase = .wrote .idle) :
      Effect s (.writeReq c [b0, b1, b2, b3]) ((s.issue c).latch c (commandWord b0 b1 b2 b3))
  /-- R95, with the line acquired. -/
  | started {c : Caller} {len : Nat} (hc : c ∉ s.await) (hl : s.life = .uninit) :
      Effect s (.startupReq c len) ((s.issue c).becomeReady.respond c .ok 0)
  /-- R95, without the line. -/
  | failed {c : Caller} {len : Nat} (hc : c ∉ s.await) (hl : s.life = .uninit) :
      Effect s (.startupReq c len) ((s.issue c).becomeFailed.respond c .lineFailure 0)
  /-- R96. -/
  | released {c : Caller} {len : Nat} (hc : c ∉ s.await) (hl : s.life = .ready) (hp : s.phase = .wrote .idle) :
      Effect s (.shutdownReq c len) ((s.issue c).releaseLine.respond c .ok 0)
  /-- R77. -/
  | encoded (hp : s.phase = .wrote .encode) : Effect s .encode (s.loadTelegram s.cmd.held)
  /-- R88, at a symbol. -/
  | symbolEmitted {i : Instr} (high : Bool) (m : Nat) (hi : i = .sym0 ∨ i = .sym1 ∨ i = .sym2)
      (hp : s.phase = .wrote .send) (hh : s.holding = .wrote false) (ho : s.lineOwned = true)
      (hslot : slotWritten s = true) (hm : m ≤ 31) : Effect s i ((takeSymbol s).drive high m)
  /-- R88, at the termination gap. -/
  | termEmitted (high : Bool) (m : Nat) (hp : s.phase = .wrote .send) (hh : s.holding = .wrote false)
      (ho : s.lineOwned = true) (hidx : s.symIdx.held = 12) (hm : m ≤ 31) : Effect s .term (s.drive high m)
  /-- R89. -/
  | expired (hp : s.phase = .wrote .send) (hh : s.holding = .wrote true)
      (hread : ∀ m ∈ expireReads s, m = true) :
      Effect s .expire (advance (s.elapse (holdDuration s.holdNom.held.toNat s.draws)))

/-- The three symbols have one effect, whatever their pulses (R88). -/
theorem effect_of_emitSymbol {i : Instr} {code : BitVec 2} {pulses : List (Bool × Nat)} {s t : State}
    (hi : i = .sym0 ∨ i = .sym1 ∨ i = .sym2) (hm : ∀ p ∈ pulses, p.2 ≤ 31)
    (h : emitSymbol code pulses s = .next t) : s.faults = [] ∧ Effect s i t := by
  obtain ⟨hf, hp, hh, ho, ⟨hslot, -, -, -, high, m, hpulse, rfl⟩ | rfl⟩ := emitSymbol_next h
  · exact ⟨hf, .symbolEmitted high m hi hp hh ho hslot (hm _ (List.mem_of_getElem? hpulse))⟩
  · exact ⟨hf, .stepFault _ (by rcases hi with rfl | rfl | rfl <;> rfl)⟩

/-- An operation that answers a next state ran in a state without a fault and had one of the effects. -/
theorem exec_effect {i : Instr} {s t : State} (h : exec i s = .next t) : s.faults = [] ∧ Effect s i t := by
  cases i with
  | openReq c len =>
    obtain ⟨hf, hc, ⟨-, -, rfl⟩ | ⟨-, ho, rfl⟩ | ⟨code, hread, hsym, rfl⟩⟩ := execOpenReq_next h
    · exact ⟨hf, .answer .busy rfl hc⟩
    · exact ⟨hf, .opened hc ho⟩
    · exact ⟨hf, .requestFault _ rfl hc (fun hu => (hread hu).imp_right .inl) hsym⟩
  | closeReq c len =>
    obtain ⟨hf, hc, ⟨-, ho, rfl⟩ | ⟨code, hread, hsym, rfl⟩⟩ := execCloseReq_next h
    · exact ⟨hf, .closed hc ho⟩
    · exact ⟨hf, .requestFault _ rfl hc (fun hu => (hread hu).imp_right .inl) hsym⟩
  | readReq c len =>
    obtain ⟨hf, hc, ⟨-, -, rfl⟩ | ⟨code, hread, hsym, rfl⟩⟩ := execReadReq_next h
    · exact ⟨hf, .answer .ok rfl hc⟩
    · exact ⟨hf, .requestFault _ rfl hc (fun hu => (hread hu).imp_right .inl) hsym⟩
  | writeReq c buf =>
    obtain ⟨hf, hc, ⟨-, -, -, rfl⟩ | ⟨b0, b1, b2, b3, rfl, hl, -, hp, rfl⟩ | ⟨code, q, hread, hsym, rfl⟩⟩ :=
      execWriteReq_next h
    · exact ⟨hf, .answer .invalidLength rfl hc⟩
    · exact ⟨hf, .latched b0 b1 b2 b3 hc hl hp⟩
    · exact ⟨hf, .requestFault q rfl hc hread hsym⟩
  | startupReq c len =>
    obtain ⟨hf, hc, ⟨hl, rfl⟩ | ⟨hl, rfl⟩ | ⟨-, rfl⟩⟩ := execStartupReq_next h
    · exact ⟨hf, .started hc hl⟩
    · exact ⟨hf, .failed hc hl⟩
    · exact ⟨hf, .requestFault _ rfl hc (by simp) (by simp)⟩
  | shutdownReq c len =>
    obtain ⟨hf, hc, ⟨hl, -, hp, rfl⟩ | ⟨code, hread, hsym, rfl⟩⟩ := execShutdownReq_next h
    · exact ⟨hf, .released hc hl hp⟩
    · exact ⟨hf, .requestFault _ rfl hc hread hsym⟩
  | encode =>
    obtain ⟨hf, hp, ⟨-, rfl⟩ | rfl⟩ := execEncode_next h
    · exact ⟨hf, .encoded hp⟩
    · exact ⟨hf, .stepFault _ rfl⟩
  | sym0 => exact effect_of_emitSymbol (pulses := pulse0) (by simp) (by decide) h
  | sym1 => exact effect_of_emitSymbol (pulses := pulse1) (by simp) (by decide) h
  | sym2 => exact effect_of_emitSymbol (pulses := pulse2) (by simp) (by decide) h
  | term =>
    obtain ⟨hf, hp, hh, ho, ⟨-, hidx, high, m, hpulse, rfl⟩ | rfl⟩ := execTerm_next h
    · have hm : ∀ p ∈ pulseTerm, p.2 ≤ 31 := by decide
      exact ⟨hf, .termEmitted high m hp hh ho hidx (hm _ (List.mem_of_getElem? hpulse))⟩
    · exact ⟨hf, .stepFault _ rfl⟩
  | expire =>
    obtain ⟨hf, hp, hh, ⟨hread, rfl⟩ | rfl⟩ := execExpire_next h
    · exact ⟨hf, .expired hp hh hread⟩
    · exact ⟨hf, .stepFault _ rfl⟩

/-! ## The effect of a step -/

/-- A property kept by taking a move off the schedule, by the fault of a step, by the fault of a request and by every effect
is kept by every step. -/
theorem step_keeps {P : State → Prop} {s t : State} (hdrop : ∀ u, P u → P u.dropMove)
    (hstep : ∀ u code q, u.faults = [] → P u → P (u.raiseFault code q))
    (hrequest : ∀ u c code q, u.faults = [] → c ∉ u.await → P u → P ((u.issue c).raiseFault code q))
    (heffect : ∀ u i v, u.faults = [] → Effect u i v → P u → P v) (hs : P s) (h : step s = .next t) : P t := by
  have hrun : ∀ u, P u → u.faults = [] → ∀ e, runCode e u = .next t → P t := by
    intro u hu hf e hk
    obtain ⟨-, ⟨i, -, hk⟩ | ⟨err, -, hk⟩⟩ := runCode_next hk
    · exact heffect u i t hf (exec_effect hk).2 hu
    · obtain ⟨r, -, hc, rfl⟩ | ⟨-, code, rfl⟩ := execRejected_next hk
      · exact hrequest u _ _ _ hf hc hu
      · exact hstep u _ _ hf hu
  obtain rfl | rfl | ⟨u, hfetch, rfl⟩ | ⟨e, u, hfetch, hk⟩ := step_next h
  · exact hs
  · exact hdrop s hs
  · obtain ⟨hf, rfl | rfl⟩ := fetch_noValue hfetch
    · exact hstep u _ _ hf hs
    · exact hstep _ _ _ hf (hdrop s hs)
  · obtain ⟨hf, rfl | rfl, -⟩ := fetch_code hfetch
    · exact hrun u hs hf e hk
    · exact hrun _ (hdrop s hs) hf e hk

/-! ## Rules over all operations -/

/-- Settles O38: of all effects only the two of EMIT write LINE. -/
theorem lineOnlyByEmit : Obligations.LineOnlyByEmit := by
  intro i s t h hne
  cases (exec_effect h).2 with
  | symbolEmitted high m hi hp hh ho => exact ⟨by rcases hi with rfl | rfl | rfl <;> simp [IsEmit], ho, hp, hh⟩
  | termEmitted high m hp hh ho => exact ⟨by simp [IsEmit], ho, hp, hh⟩
  | _ => simp at hne

/-- Settles O39: of all effects only the latching WRITE writes CMD. -/
theorem cmdOnlyByWrite : Obligations.CmdOnlyByWrite := by
  intro i s t h hne
  cases (exec_effect h).2 with
  | latched b0 b1 b2 b3 hc hl hp => exact ⟨_, b0, b1, b2, b3, rfl, hp, by simp⟩
  | _ => simp at hne

/-- Settles O40: of all effects only the two of STARTUP and the release of SHUTDOWN write LIFE. -/
theorem lifeMovesForward : Obligations.LifeMovesForward := by
  intro i s t h hne
  cases (exec_effect h).2 with
  | started hc hl => exact .inl ⟨_, _, rfl, hl, .inl (by simp)⟩
  | failed hc hl => exact .inl ⟨_, _, rfl, hl, .inr (by simp)⟩
  | released hc hl => exact .inr ⟨_, _, rfl, hl, by simp⟩
  | _ => simp at hne

/-- Settles O41: of all effects only those of OPEN, CLOSE and STARTUP write OPEN_COUNT. -/
theorem openCountMoves : Obligations.OpenCountMoves := by
  intro i s t h hne
  cases (exec_effect h).2 with
  | opened hc ho => exact .inl ⟨_, _, rfl, ho, by simp⟩
  | closed hc ho => exact .inr (.inl ⟨_, _, rfl, ho, by simp⟩)
  | started => exact .inr (.inr ⟨_, _, rfl, by simp⟩)
  | _ => simp at hne

/-- Settles O42: EMIT appends its pending entry, EXPIRE fills one in, and no other effect touches TRACE or NOW. -/
theorem timeOnlyInHolds : Obligations.TimeOnlyInHolds := by
  intro i s t h
  cases (exec_effect h).2 with
  | symbolEmitted high m hi =>
    refine ⟨by simp, by rcases hi with rfl | rfl | rfl <;> simp, fun _ _ => ⟨?_, high, nominalHold m s.period.held, by simp⟩⟩
    rcases hi with rfl | rfl | rfl <;> simp [IsEmit]
  | termEmitted high m => exact ⟨by simp, by simp, fun _ _ => ⟨by simp [IsEmit], high, _, rfl⟩⟩
  | expired => exact ⟨by simp, by simp, by simp⟩
  | _ => simp

/-- Settles O43: a request is answered with value 0, the writer by the EXPIRE that ends its transmission. -/
theorem responsesOneAtATime : Obligations.ResponsesOneAtATime := by
  intro i s t h hne
  cases (exec_effect h).2 with
  | answer st hi hc => exact ⟨_, rfl, by simp, .inr ⟨hi, rfl⟩⟩
  | opened => exact ⟨_, rfl, by simp, .inr ⟨rfl, rfl⟩⟩
  | closed => exact ⟨_, rfl, by simp, .inr ⟨rfl, rfl⟩⟩
  | started => exact ⟨_, rfl, by simp, .inr ⟨rfl, rfl⟩⟩
  | failed => exact ⟨_, rfl, by simp, .inr ⟨rfl, rfl⟩⟩
  | released => exact ⟨_, rfl, by simp, .inr ⟨rfl, rfl⟩⟩
  | expired hp hh hread =>
    obtain ⟨hresp, -⟩ | ⟨hend, hidle, c, hc, hresp, hawait⟩ :=
      advance_answers (s.elapse (holdDuration s.holdNom.held.toNat s.draws))
    · exact absurd hresp hne
    · obtain ⟨-, -, -, -, -, hwriter⟩ := expireReads_all hread
      exact ⟨_, hresp, by simp [hawait],
        .inl ⟨rfl, rfl, rfl, hp, hidle, (Reg.eq_wrote_iff _ _).mpr ⟨hwriter hend, hc⟩⟩⟩
  | _ => simp at hne

/-- Every effect keeps AWAIT in its canonical form: it sets one bit, clears one, or leaves them. -/
theorem Effect.awaitWf {i : Instr} {s t : State} (he : Effect s i t) (hs : AwaitWf s.await) : AwaitWf t.await := by
  have hissue : ∀ c, AwaitWf (awaitInsert c s.await) := fun _ => AwaitWf_awaitInsert hs
  cases he with
  | requestFault => exact hissue _
  | latched => exact hissue _
  | answer => exact AwaitWf_awaitErase (hissue _)
  | opened => exact AwaitWf_awaitErase (hissue _)
  | closed => exact AwaitWf_awaitErase (hissue _)
  | started => exact AwaitWf_awaitErase (hissue _)
  | failed => exact AwaitWf_awaitErase (hissue _)
  | released => exact AwaitWf_awaitErase (hissue _)
  | expired =>
    obtain ⟨-, hawait⟩ | ⟨-, -, c, -, -, hawait⟩ :=
      advance_answers (s.elapse (holdDuration s.holdNom.held.toNat s.draws))
    · exact hawait ▸ hs
    · exact hawait ▸ AwaitWf_awaitErase hs
  | _ => simpa using hs

/-- Settles O53: each effect sets or clears single bits. -/
theorem awaitStaysCanonical : Obligations.AwaitStaysCanonical := fun _ _ hs h =>
  step_keeps (P := fun u => AwaitWf u.await) (fun _ hu => hu) (fun _ _ _ _ hu => hu)
    (fun _ _ _ _ _ _ hu => AwaitWf_awaitInsert hu) (fun _ _ _ _ he hu => he.awaitWf hu) hs h

/-- In a state without a fault an effect records at most one. -/
theorem Effect.faults_length {i : Instr} {s t : State} (he : Effect s i t) (hf : s.faults = []) :
    t.faults.length ≤ 1 := by
  cases he <;> simp [hf]

/-! ## The gate of each operation -/

/-- Every request is taken at the request port (R93). -/
theorem exec_eq_atPort {i : Instr} {c : Caller} (hi : requester i = some c) :
    ∃ k : State → Result, ∀ s, exec i s = atPort c s k := by
  cases i <;> cases hi <;>
    simp only [exec, execOpenReq, execCloseReq, execReadReq, execWriteReq, execStartupReq, execShutdownReq] <;>
    exact ⟨_, fun _ => rfl⟩

/-- Every EMIT is gated alike (R31, R88). -/
theorem exec_eq_whenEmitting {i : Instr} (hi : IsEmit i) :
    ∃ k : State → Result, ∀ s, exec i s = whenEmitting s (k s) := by
  rcases hi with rfl | rfl | rfl | rfl <;>
    simp only [exec, execSymZero, execSymOne, execSymTwo, execTerm, emitSymbol] <;>
    exact ⟨fun _ => _, fun _ => rfl⟩

/-- The operations of the Transmitter are ENCODE, EMIT and EXPIRE. -/
theorem transmitter_cases {i : Instr} (hi : requester i = none) : i = .encode ∨ IsEmit i ∨ i = .expire := by
  cases i <;> simp_all [requester, IsEmit]

/-! ## A faulted state -/

theorem step_of_faulted {s : State} (hf : s.faults ≠ []) : step s = .fault .quiescent := by
  simp [step, fetch, runFetched, faulted_eq_true.mpr hf]

theorem atPort_of_faulted {s : State} (hf : s.faults ≠ []) (c : Caller) (k : State → Result) :
    atPort c s k = .fault .quiescent := by
  simp [atPort, faulted_eq_true.mpr hf]

theorem whenEmitting_of_faulted {s : State} (hf : s.faults ≠ []) (k : Result) :
    whenEmitting s k = .fault .quiescent := by
  simp [whenEmitting, faulted_eq_true.mpr hf]

theorem whenHolding_of_faulted {s : State} (hf : s.faults ≠ []) (k : Result) :
    whenHolding s k = .fault .quiescent := by
  simp [whenHolding, faulted_eq_true.mpr hf]

theorem exec_of_faulted {s : State} (hf : s.faults ≠ []) (i : Instr) : exec i s = .fault .quiescent := by
  rcases hi : requester i with _ | c
  · rcases transmitter_cases hi with rfl | hemit | rfl
    · simp [exec, execEncode, faulted_eq_true.mpr hf]
    · obtain ⟨k, hk⟩ := exec_eq_whenEmitting hemit
      rw [hk, whenEmitting_of_faulted hf]
    · exact whenHolding_of_faulted hf _
  · obtain ⟨k, hk⟩ := exec_eq_atPort hi
    rw [hk, atPort_of_faulted hf]

/-- Settles O35: `step`, the request port and the three Transmitter gates test FAULTS first. -/
theorem faultedIsQuiescent : Obligations.FaultedIsQuiescent := fun _ hf =>
  ⟨step_of_faulted hf, exec_of_faulted hf⟩

/-- Settles O36: only a state without a fault has a step, and every effect records at most one. -/
theorem faultsOnlyGrow : Obligations.FaultsOnlyGrow := by
  intro s t h
  have hf : s.faults = [] := by_contra fun hf => by simp [step_of_faulted hf] at h
  refine ⟨t.faults, by simp [hf], ?_⟩
  exact step_keeps (P := fun u => u.faults.length ≤ 1) (fun _ hu => hu) (fun u _ _ hu _ => by simp [hu])
    (fun u _ _ _ hu _ _ => by simp [hu]) (fun _ _ _ hu he _ => he.faults_length hu) (by simp [hf]) h

end Sys2Proof.Machine

/-! # The state invariants

The packed words have no slot 3 (R24, R76); each update of the state keeps the invariants of R38 under the conditions of the
step that makes it; so every effect and every step does. -/

namespace Sys2Proof.Machine

/-! ## Packed words have no slot 3 -/

/-- No base-4 digit is 3. -/
def DigitsLegal (n : Nat) : Prop := ∀ j, n / 4 ^ j % 4 ≠ 3

/-- Appending a trit keeps the digits legal: the new digit is the trit, the others move up one place. -/
theorem DigitsLegal.append_trit {n r : Nat} (hn : DigitsLegal n) (hr : r < 3) : DigitsLegal (4 * n + r) := by
  intro j
  cases j with
  | zero => simp only [pow_zero, Nat.div_one]; omega
  | succ j =>
    have hshift : (4 * n + r) / 4 ^ (j + 1) = n / 4 ^ j := by
      rw [pow_succ', ← Nat.div_div_eq_div_mul]
      congr 1
      omega
    rw [hshift]
    exact hn j

/-- Every iteration of the packing loop appends a trit (R73). -/
theorem digitsLegal_packTrits (n q acc : Nat) (h : DigitsLegal acc) : DigitsLegal (packTrits n q acc) := by
  induction n generalizing q acc with
  | zero => simpa [packTrits] using h
  | succ n ih =>
    rw [packTrits_succ]
    exact ih _ _ (h.append_trit (Nat.mod_lt _ (by decide)))

/-- A slot is a base-4 digit (R24). -/
theorem slot_toNat (a : BitVec 24) (j : Nat) : (slot a j).toNat = a.toNat / 4 ^ j % 4 := by
  simp [slot, Nat.shiftRight_eq_div_pow, pow_mul]

theorem slotsLegal_encode12 (p : BitVec 20) : SlotsLegal (encode12 p) := by
  intro j _ h
  have hdigit : DigitsLegal (packTrits 12 p.toNat 0) := digitsLegal_packTrits _ _ _ (by simp [DigitsLegal])
  refine hdigit j ?_
  rw [← encode12_toNat, ← slot_toNat, h]
  rfl

/-- Shifting the lowest slot out moves the others down and brings in a 0 (R88). -/
theorem SlotsLegal.shiftRight {a : BitVec 24} (h : SlotsLegal a) : SlotsLegal (a >>> 2) := by
  intro j hj hslot
  have hnext : slot (a >>> 2) j = slot a (j + 1) := by
    apply BitVec.eq_of_toNat_eq
    simp only [slot_toNat, BitVec.toNat_ushiftRight, Nat.shiftRight_eq_div_pow, Nat.div_div_eq_div_mul, pow_succ']
    rfl
  rw [hnext] at hslot
  by_cases hlast : j = 11
  · subst hlast
    have hzero : slot a 12 = 0 := by
      apply BitVec.eq_of_toNat_eq
      rw [slot_toNat, Nat.div_eq_of_lt (show a.toNat < 4 ^ 12 from a.isLt)]
      rfl
    rw [hzero] at hslot
    exact absurd hslot (by decide)
  · exact h (j + 1) (by omega) hslot

/-- R71: between 1 and 128 frames. -/
theorem repeats_bounds (w : Word) : 1 ≤ (repeats w).toNat ∧ (repeats w).toNat ≤ 128 := by
  have hall : ∀ r : BitVec 3, 1 ≤ (1#8 <<< r.toNat).toNat ∧ (1#8 <<< r.toNat).toNat ≤ 128 := by decide
  exact hall (repExp w)

/-- R80: the longest nominal hold has 31 periods of 511 microseconds. -/
theorem nominalHold_le {m : Nat} (hm : m ≤ 31) (t : BitVec 9) : nominalHold m t ≤ 15841 :=
  calc m * t.toNat ≤ 31 * 511 := Nat.mul_le_mul hm (Nat.le_of_lt_succ t.isLt)
    _ = 15841 := by decide

/-- HOLD_NOM holds a nominal hold of at most 31 periods in full (R28). -/
theorem ofNat_nominalHold {m : Nat} (hm : m ≤ 31) (t : BitVec 9) :
    (BitVec.ofNat 14 (nominalHold m t)).toNat = nominalHold m t := by
  rw [BitVec.toNat_ofNat, Nat.mod_eq_of_lt (nominalHold_lt hm t)]

/-- Settles O28: each of the three multiples is at most 31. -/
theorem nominalHoldFits : Obligations.NominalHoldFits := by
  intro t m hm
  have hm : m ≤ 31 := by omega
  exact ⟨ofNat_nominalHold hm t, nominalHold_le hm t⟩

/-! ## What the invariants say of a phase -/

/-- Outside READY the Transmitter is at rest, so a transmission in flight means READY (R18). -/
theorem Inv.ready_of_inFlight {s : State} (hi : Inv s) {p : Phase} (hp : s.phase = .wrote p) (hne : p ≠ .idle) :
    s.life = .ready := by
  by_contra hl
  rcases hi.notReady hl with hw | hidle
  · simp [hp] at hw
  · exact hne (by simpa [hp] using hidle)

/-- Nobody waits while PHASE is neither ENCODE nor SEND and no fault is recorded: only a writer waits (R32). -/
theorem Inv.await_eq_nil {s : State} (hi : Inv s) (hf : s.faults = []) (he : s.phase ≠ .wrote .encode)
    (hs : s.phase ≠ .wrote .send) : s.await = [] := by
  refine List.eq_nil_iff_forall_not_mem.mpr fun c hc => ?_
  rcases (hi.writerWaits c (hi.onlyWriter hf c hc)).2 with h | h
  · exact he h
  · exact hs h

/-- Before STARTUP the Transmitter is at rest. -/
theorem Inv.rest_of_not_ready {s : State} (hi : Inv s) (hl : s.life ≠ .ready) :
    s.phase ≠ .wrote .encode ∧ s.phase ≠ .wrote .send := by
  constructor <;> exact fun hp => hl (hi.ready_of_inFlight hp (by decide))

/-! ## Updates that keep the invariants -/

/-- The invariants speak of the registers of R17 alone. -/
theorem Inv.of_sameBlock {s t : State} (hi : Inv s) (hb : t.toBlock = s.toBlock) (hf : t.faults = s.faults) :
    Inv t := by
  obtain ⟨b, f, r, m, d⟩ := s
  obtain ⟨b', f', r', m', d'⟩ := t
  obtain rfl : b' = b := hb
  obtain rfl : f' = f := hf
  exact { hi with sending := fun h => { hi.sending h with } }

theorem Inv.dropMove {s : State} (hi : Inv s) : Inv s.dropMove := hi.of_sameBlock rfl rfl

/-- A request that is answered leaves AWAIT as it was (R32). -/
theorem Inv.answer {s : State} (hi : Inv s) {c : Caller} (hc : c ∉ s.await) (st : Status) (v : BitVec 32) :
    Inv ((s.issue c).respond c st v) := by
  refine hi.of_sameBlock ?_ rfl
  show { s.toBlock with await := awaitErase c (awaitInsert c s.await) } = s.toBlock
  rw [awaitErase_awaitInsert hc]

theorem Inv.stepFault {s : State} (hi : Inv s) (hf : s.faults = []) (code : FaultCode) (q : Cause) :
    Inv (s.raiseFault code q) :=
  { hi with
    sending := fun h => { hi.sending h with }
    onlyWriter := fun h => by simp at h
    oneFault := by simp [hf] }

/-- A request that raises a fault leaves one more caller waiting, and no further step (R110). -/
theorem Inv.requestFault {s : State} (hi : Inv s) (hf : s.faults = []) (c : Caller) (code : FaultCode) (q : Cause) :
    Inv ((s.issue c).raiseFault code q) :=
  { hi with
    awaitWf := AwaitWf_awaitInsert hi.awaitWf
    sending := fun h => { hi.sending h with }
    writerWaits := fun d hd => (hi.writerWaits d hd).imp_left fun h => by simp [h]
    onlyWriter := fun h => by simp at h
    oneFault := by simp [hf] }

theorem Inv.setOpenCount {s : State} (hi : Inv s) (v : Bool) : Inv (s.setOpenCount v) :=
  { hi with
    ready := fun h => ⟨rfl, (hi.ready h).2⟩
    sending := fun h => { hi.sending h with } }

/-- R95: STARTUP finds the Transmitter at rest and nobody waiting. -/
theorem Inv.becomeReady {s : State} (hi : Inv s) (hf : s.faults = []) (hl : s.life = .uninit) :
    Inv s.becomeReady := by
  obtain ⟨hencode, hsend⟩ := hi.rest_of_not_ready (by simp [hl])
  have hnobody : s.await = [] := hi.await_eq_nil hf hencode hsend
  exact { hi with
    owned := by simp
    notReady := fun h => by simp at h
    ready := fun _ => ⟨rfl, rfl, rfl, rfl⟩
    idle := by simp
    encoding := fun h => by simp at h
    sending := fun h => by simp at h
    hold := fun h => by simp at h
    writerWaits := fun c h => by simp at h
    onlyWriter := fun _ c h => by simp [hnobody] at h }

theorem Inv.becomeFailed {s : State} (hi : Inv s) (hl : s.life = .uninit) : Inv s.becomeFailed :=
  { hi with
    owned := by simpa [hl] using hi.owned
    notReady := fun _ => hi.notReady (by simp [hl])
    ready := fun h => by simp at h
    sending := fun h => { hi.sending h with } }

theorem Inv.releaseLine {s : State} (hi : Inv s) (hp : s.phase = .wrote .idle) : Inv s.releaseLine :=
  { hi with
    owned := by simp
    notReady := fun _ => .inr hp
    ready := fun h => by simp at h
    sending := fun h => { hi.sending h with } }

/-- R102: the WRITE taken at IDLE makes its caller the writer, and the only one that waits. -/
theorem Inv.latch {s : State} (hi : Inv s) (hf : s.faults = []) (hl : s.life = .ready)
    (hp : s.phase = .wrote .idle) (c : Caller) (w : Word) : Inv ((s.issue c).latch c w) := by
  have hnobody : s.await = [] := hi.await_eq_nil hf (by simp [hp]) (by simp [hp])
  obtain ⟨hopen, -, hholding, -⟩ := hi.ready hl
  exact { hi with
    awaitWf := AwaitWf_awaitInsert hi.awaitWf
    notReady := fun h => absurd hl h
    ready := fun _ => ⟨hopen, rfl, hholding, rfl⟩
    idle := by simp
    encoding := fun _ => rfl
    sending := fun h => by simp at h
    hold := fun h => by simp [(hi.hold h).1] at hp
    writerWaits := fun d h => by
      obtain rfl : c = d := by simpa using h
      simp
    onlyWriter := fun _ d h => by
      obtain rfl : d = c := by simpa [hnobody] using h
      rfl }

/-- R77. -/
theorem Inv.loadTelegram {s : State} (hi : Inv s) (hp : s.phase = .wrote .encode) (w : Word) :
    Inv (s.loadTelegram w) := by
  have hl : s.life = .ready := hi.ready_of_inFlight hp (by decide)
  obtain ⟨hopen, -, -, hwriter⟩ := hi.ready hl
  exact { hi with
    notReady := fun h => absurd hl h
    ready := fun _ => ⟨hopen, rfl, rfl, hwriter⟩
    idle := by simpa [hp] using hi.idle
    encoding := fun h => by simp at h
    sending := fun _ =>
      { written := ⟨rfl, rfl, rfl, rfl, rfl, rfl⟩
        frames := repeats_bounds w
        symRead := fun _ h => by simp at h }
    position := by simp
    slots := ⟨slotsLegal_encode12 _, slotsLegal_encode12 _, hi.slots.2.2⟩
    hold := fun h => by simp at h
    writerWaits := fun c h => (hi.writerWaits c h).imp_right fun _ => .inr rfl }

/-- R88: the slot taken into SYM was a slot of WORK. -/
theorem Inv.takeSlot {s : State} (hi : Inv s) : Inv s.takeSlot := by
  obtain ⟨hacc, hwork, -⟩ := hi.slots
  exact { hi with
    sending := fun h =>
      have ⟨hperiod, hrep, hacc, _, hrest⟩ := (hi.sending h).written
      { hi.sending h with
        written := ⟨hperiod, hrep, hacc, rfl, hrest⟩
        symRead := fun _ _ => rfl }
    slots := ⟨hacc, hwork.shiftRight, hwork 0 (by decide)⟩ }

theorem Inv.takeSymbol {s : State} (hi : Inv s) : Inv (takeSymbol s) := by
  unfold Machine.takeSymbol
  split
  · exact hi.takeSlot
  · exact hi

/-- After the slot is taken SYM holds a value, if the slot had one. -/
theorem takeSymbol_sym_written {s : State} (h : slotWritten s = true) : (takeSymbol s).sym.written = true := by
  unfold slotWritten at h
  unfold takeSymbol
  split
  · rfl
  · rename_i hstep
    rwa [if_neg hstep] at h

/-- R88: a hold starts while frames are sent, of a nominal duration within R28's bound. -/
theorem Inv.drive {s : State} (hi : Inv s) (hp : s.phase = .wrote .send)
    (hsym : s.symIdx.held < 12 → s.sym.written = true) (high : Bool) {m : Nat} (hm : m ≤ 31) :
    Inv (s.drive high m) :=
  { hi with
    ready := fun h => (hi.ready h).imp_right fun h => ⟨h.1, rfl, h.2.2⟩
    sending := fun h => { hi.sending h with symRead := fun h _ => hsym h }
    hold := fun _ => ⟨hp, rfl⟩
    holdBound := by
      rw [drive_holdNom, Reg.wrote_held, ofNat_nominalHold hm]
      exact nominalHold_le hm _ }

/-- R89. -/
theorem Inv.elapse {s : State} (hi : Inv s) (d : Nat) : Inv (s.elapse d) :=
  { hi with
    ready := fun h => (hi.ready h).imp_right fun h => ⟨h.1, rfl, h.2.2⟩
    sending := fun h => { hi.sending h with
      symRead := fun hidx hstep => (hi.sending h).symRead hidx (.inl (by simpa using hstep)) }
    hold := fun h => by simp at h }

theorem Inv.setPosition {s : State} (hi : Inv s) {idx : BitVec 4} {k : BitVec 2}
    (hpos : idx ≤ 12 ∧ (idx = 12 → k ≤ 1))
    (hsym : s.phase = .wrote .send → idx < 12 → k ≠ 0 ∨ s.holding = .wrote true → s.sym.written = true) :
    Inv (s.setPosition idx k) :=
  { hi with
    sending := fun h =>
      have ⟨hperiod, hrep, hacc, hwork, _⟩ := (hi.sending h).written
      { hi.sending h with
        written := ⟨hperiod, hrep, hacc, hwork, rfl, rfl⟩
        symRead := hsym h }
    position := hpos }

/-- R90: a frame fewer, where another is left or nothing is sent any more. -/
theorem Inv.countFrame {s : State} (hi : Inv s) (hrep : s.phase = .wrote .send → s.repLeft.held - 1 ≠ 0) :
    Inv s.countFrame :=
  { hi with
    sending := fun h =>
      have ⟨hperiod, _, hrest⟩ := (hi.sending h).written
      { hi.sending h with
        written := ⟨hperiod, rfl, hrest⟩
        frames := by
          obtain ⟨hlow, hhigh⟩ := (hi.sending h).frames
          have hne := hrep h
          rw [countFrame_repLeft, Reg.wrote_held]
          bv_omega } }

theorem Inv.reloadWork {s : State} (hi : Inv s) : Inv s.reloadWork := by
  obtain ⟨hacc, -, hsym⟩ := hi.slots
  exact { hi with
    sending := fun h =>
      have ⟨hperiod, hrep, hacc, _, hrest⟩ := (hi.sending h).written
      { hi.sending h with written := ⟨hperiod, hrep, hacc, rfl, hrest⟩ }
    slots := ⟨hacc, hacc, hsym⟩ }

/-- R90: the writer, who alone waits, is answered, and the Transmitter returns to IDLE. -/
theorem Inv.respond_goIdle {s : State} (hi : Inv s) (hf : s.faults = []) {c : Caller}
    (hw : s.writer = .wrote (some c)) (hh : s.holding ≠ .wrote true) (st : Status) (v : BitVec 32) :
    Inv (s.respond c st v).goIdle :=
  { hi with
    awaitWf := AwaitWf_awaitErase hi.awaitWf
    notReady := fun _ => .inr rfl
    ready := fun h => (hi.ready h).imp_right fun h => ⟨rfl, h.2.1, rfl⟩
    idle := by simp
    encoding := fun h => by simp at h
    sending := fun h => by simp at h
    hold := fun h => absurd h hh
    writerWaits := fun d h => by simp at h
    onlyWriter := fun _ d hd => by
      obtain ⟨hne, hd⟩ : d ≠ c ∧ d ∈ s.await := by simpa using hd
      exact absurd (by simpa [hw] using (hi.onlyWriter hf d hd).symm) hne }

/-! ## ADVANCE -/

/-- A transmission in flight has a writer (R29). -/
theorem Inv.exists_writer {s : State} (hi : Inv s) (hp : s.phase = .wrote .send) :
    ∃ c, s.writer = .wrote (some c) := by
  obtain ⟨-, -, -, hwritten⟩ := hi.ready (hi.ready_of_inFlight hp (by decide))
  rcases hw : s.writer.held with _ | c
  · have hidle := hi.idle.mpr ((Reg.eq_wrote_iff _ _).mpr ⟨hwritten, hw⟩)
    simp [hp] at hidle
  · exact ⟨c, (Reg.eq_wrote_iff _ _).mpr ⟨hwritten, hw⟩⟩

/-- The end of a transmission: the position and REP_LEFT are written while nothing is sent any more (R90). -/
theorem Inv.finishTransmission {s : State} (hi : Inv s) (hf : s.faults = []) (hp : s.phase = .wrote .send)
    (hh : s.holding = .wrote false) : Inv (finishTransmission (s.setPosition 0 0).countFrame) := by
  obtain ⟨c, hw⟩ := hi.exists_writer hp
  have hend : Inv (((s.respond c .ok 4).goIdle.setPosition 0 0).countFrame) :=
    ((hi.respond_goIdle hf hw (by simp [hh]) .ok 4).setPosition (by decide) (fun h => by simp at h)).countFrame
      (fun h => by simp at h)
  rcases finishTransmission_cases (s.setPosition 0 0).countFrame with ⟨d, hd, h⟩ | ⟨hd, -⟩
  · obtain rfl : c = d := by simpa [hw] using hd
    rw [h]
    exact hend
  · simp [hw] at hd

/-- ADVANCE after a hold: the position moves within R38's range, and SYM was read at this symbol already (R90). -/
theorem Inv.advance {s : State} (hi : Inv s) (hf : s.faults = []) (hp : s.phase = .wrote .send)
    (hh : s.holding = .wrote false) (hsym : s.symIdx.held < 12 → s.sym.written = true) : Inv (advance s) := by
  obtain ⟨hidx, -⟩ := hi.position
  rcases advance_cases s with ⟨h12, -, h⟩ | ⟨h12, -, h⟩ | ⟨h12, -, h⟩ | ⟨-, -, -, h⟩ | ⟨-, -, hrep, h⟩ <;> rw [h]
  · exact hi.setPosition ⟨by bv_omega, by simp⟩ (fun _ _ hread => by simp [hh] at hread)
  · exact hi.setPosition ⟨hidx, fun heq => by bv_omega⟩ (fun _ _ _ => hsym h12)
  · exact hi.setPosition ⟨hidx, by simp⟩ (fun _ hlt => absurd hlt h12)
  · exact hi.finishTransmission hf hp hh
  · exact ((hi.setPosition (by decide) (fun _ _ hread => by simp [hh] at hread)).countFrame
      (fun _ => hrep)).reloadWork

/-! ## Every effect and every step -/

/-- Every effect keeps the state invariants. -/
theorem Effect.inv {i : Instr} {s t : State} (he : Effect s i t) (hf : s.faults = []) (hi : Inv s) : Inv t := by
  cases he with
  | requestFault q hreq hc => exact hi.requestFault hf _ _ q
  | stepFault q => exact hi.stepFault hf _ q
  | answer st hreq hc => exact hi.answer hc st 0
  | opened hc => exact (hi.answer hc .ok 0).setOpenCount true
  | closed hc => exact (hi.answer hc .ok 0).setOpenCount false
  | latched b0 b1 b2 b3 hc hl hp => exact hi.latch hf hl hp _ _
  | started hc hl => exact (hi.answer hc .ok 0).becomeReady hf hl
  | failed hc hl => exact (hi.answer hc .lineFailure 0).becomeFailed hl
  | released hc hl hp => exact (hi.answer hc .ok 0).releaseLine hp
  | encoded hp => exact hi.loadTelegram hp _
  | symbolEmitted high m hsym hp hh ho hslot hm =>
    exact hi.takeSymbol.drive (by simpa using hp) (fun _ => takeSymbol_sym_written hslot) high hm
  | termEmitted high m hp hh ho hidx hm =>
    exact hi.drive hp (fun hlt => by simp [hidx] at hlt) high hm
  | expired hp hh =>
    exact (hi.elapse _).advance hf hp rfl fun hlt => (hi.sending hp).symRead hlt (.inr hh)

/-- Settles O54: every effect keeps the invariants, and so does every fault of a step or a request. -/
theorem invariantsKept : Obligations.InvariantsKept := fun _ _ hi h =>
  step_keeps (fun _ hu => hu.dropMove) (fun _ code q hf hu => hu.stepFault hf code q)
    (fun _ c code q hf _ hu => hu.requestFault hf c code q) (fun _ _ _ hf he hu => he.inv hf hu) hi h

end Sys2Proof.Machine

/-! # The gates of the operations and the progress of the block

What each check answers where it passes and where it does not; then the operations that stop by name, the reads that record
F_UNWRITTEN, and that the block never stops under its invariants. -/

namespace Sys2Proof.Machine

/-! ## The checks, case by case -/

/-- A read of a register without a value records F_UNWRITTEN (R35). -/
theorem readsAll_of_unwritten {marks : List Bool} (h : false ∈ marks) (q : Cause) (s : State) (k : Result) :
    readsAll marks q s k = .next (s.raiseFault .unwritten q) := by
  have hnot : ¬ marks.all (fun m => m) = true := fun hall => by simpa using List.all_eq_true.mp hall false h
  rw [readsAll, if_neg hnot]

theorem whenReady_of_ready {s : State} (hl : s.life = .ready) (q : Cause) (k : Result) : whenReady q s k = k :=
  if_pos (isReady_eq_true.mpr hl)

theorem atPort_of_blocked {c : Caller} {s : State} (hf : s.faults = []) (hc : c ∈ s.await) (k : State → Result) :
    atPort c s k = .fault .notEnabled := by
  simp [atPort, faulted_eq_false.mpr hf, awaits_eq_true.mpr hc]

section Emitting
variable {s : State} (hf : s.faults = [])
include hf

theorem whenEmitting_of_owned (hp : s.phase = .wrote .send) (hh : s.holding = .wrote false)
    (ho : s.lineOwned = true) (k : Result) :
    whenEmitting s k = readsAll [s.symIdx.written, s.stepIdx.written] (.step .emit) s k := by
  simp [whenEmitting, faulted_eq_false.mpr hf, sendingWith_eq_true.mpr ⟨hp, hh⟩, ho]

theorem whenEmitting_of_not_owned (hp : s.phase = .wrote .send) (hh : s.holding = .wrote false)
    (ho : s.lineOwned = false) (k : Result) : whenEmitting s k = .fault .lineNotOwned := by
  simp [whenEmitting, faulted_eq_false.mpr hf, sendingWith_eq_true.mpr ⟨hp, hh⟩, ho]

theorem whenEmitting_of_not_sending (h : s.phase ≠ .wrote .send ∨ s.holding ≠ .wrote false) (k : Result) :
    whenEmitting s k = .fault .notEnabled := by
  have hs : ¬ s.sendingWith false = true := by rw [sendingWith_eq_true]; tauto
  simp [whenEmitting, faulted_eq_false.mpr hf, hs]

theorem whenHolding_of_holding (hp : s.phase = .wrote .send) (hh : s.holding = .wrote true) (k : Result) :
    whenHolding s k = k := by
  simp [whenHolding, faulted_eq_false.mpr hf, sendingWith_eq_true.mpr ⟨hp, hh⟩]

theorem whenHolding_of_not_holding (h : s.phase ≠ .wrote .send ∨ s.holding ≠ .wrote true) (k : Result) :
    whenHolding s k = .fault .notEnabled := by
  have hs : ¬ s.sendingWith true = true := by rw [sendingWith_eq_true]; tauto
  simp [whenHolding, faulted_eq_false.mpr hf, hs]

theorem execEncode_of_pending (hp : s.phase = .wrote .encode) :
    execEncode s = readsAll [s.cmd.written] (.step .encode) s (.next (s.loadTelegram s.cmd.held)) := by
  simp [execEncode, faulted_eq_false.mpr hf, encodePending_eq_true.mpr hp]

theorem execEncode_of_not_pending (hp : s.phase ≠ .wrote .encode) : execEncode s = .fault .notEnabled := by
  have hs : ¬ s.encodePending = true := by rwa [encodePending_eq_true]
  simp [execEncode, faulted_eq_false.mpr hf, hs]

end Emitting

/-! ## Operations that are not enabled -/

/-- A symbol at another row's position or slot stops, when the registers it reads have values. -/
theorem emitSymbol_of_other {s : State} {code : BitVec 2} (pulses : List (Bool × Nat)) (hf : s.faults = [])
    (hp : s.phase = .wrote .send) (hh : s.holding = .wrote false) (ho : s.lineOwned = true)
    (hread : s.symIdx.written = true ∧ s.stepIdx.written = true ∧ s.period.written = true)
    (hslot : slotWritten s = true) (h : 12 ≤ s.symIdx.held ∨ slotCode s ≠ code) :
    emitSymbol code pulses s = .fault .notEnabled := by
  obtain ⟨hidx, hstep, hperiod⟩ := hread
  have hother : ¬ (s.symIdx.held < 12 ∧ slotCode s = code) := by
    rintro ⟨hlt, heq⟩
    rcases h with hge | hne
    · exact absurd hlt (BitVec.not_lt.mpr hge)
    · exact hne heq
  rw [emitSymbol, whenEmitting_of_owned hf hp hh ho, readsAll_of_written _ _ _ (by simp [hidx, hstep]),
    readsAll_of_written _ _ _ (by simp [hslot, hperiod]), if_neg hother]

/-- TERM, where its registers have values, is the position test and the transition of the gap (R84). -/
theorem execTerm_of_owned {s : State} (hf : s.faults = []) (hp : s.phase = .wrote .send)
    (hh : s.holding = .wrote false) (ho : s.lineOwned = true)
    (hread : s.symIdx.written = true ∧ s.stepIdx.written = true ∧ s.period.written = true) :
    execTerm s = if s.symIdx.held = 12 then emitTransition pulseTerm s else .fault .notEnabled := by
  obtain ⟨hidx, hstep, hperiod⟩ := hread
  rw [execTerm, whenEmitting_of_owned hf hp hh ho, readsAll_of_written _ _ _ (by simp [hidx, hstep]),
    readsAll_of_written _ _ _ (by simp [hperiod])]

/-- R23: the termination gap has two transitions. -/
theorem emitTransition_pulseTerm_of_past {s : State} (h : 2 ≤ s.stepIdx.held) :
    emitTransition pulseTerm s = .fault .noTransition := by
  have hnone : pulseTerm[s.stepIdx.held.toNat]? = none := List.getElem?_eq_none h
  rw [emitTransition, hnone]

/-- Settles O25: each operation's gate refuses it, or its position test does. -/
theorem disabledOperationsStop : Obligations.DisabledOperationsStop := by
  intro s hf
  refine ⟨fun i c hi hc => ?_, execEncode_of_not_pending hf, fun i hi h => ?_,
    fun h => whenHolding_of_not_holding hf h _, fun hp hh => ⟨fun ho i hi => ?_, fun ho hidx hstep hperiod =>
      ⟨fun hslot => ?_, fun hne => ?_, fun heq hpast => ?_⟩⟩⟩
  · obtain ⟨k, hk⟩ := exec_eq_atPort hi
    rw [hk, atPort_of_blocked hf hc]
  · obtain ⟨k, hk⟩ := exec_eq_whenEmitting hi
    rw [hk, whenEmitting_of_not_sending hf h]
  · obtain ⟨k, hk⟩ := exec_eq_whenEmitting hi
    rw [hk, whenEmitting_of_not_owned hf hp hh ho]
  · have hother {code : BitVec 2} (pulses : List (Bool × Nat)) :=
      emitSymbol_of_other (code := code) pulses hf hp hh ho ⟨hidx, hstep, hperiod⟩ hslot
    exact ⟨hother pulse0, hother pulse1, hother pulse2⟩
  · exact (execTerm_of_owned hf hp hh ho ⟨hidx, hstep, hperiod⟩).trans (if_neg hne)
  · calc execTerm s = emitTransition pulseTerm s :=
        (execTerm_of_owned hf hp hh ho ⟨hidx, hstep, hperiod⟩).trans (if_pos heq)
      _ = .fault .noTransition := emitTransition_pulseTerm_of_past hpast

/-! ## A step by the schedule -/

/-- The move of the Transmitter when nothing is scheduled. -/
def transmitMove (s : State) : Result := runFetched (fetchTransmit s) s

theorem transmitMove_of_code {s : State} {e : Encoding} (h : txSelect s = .code e) :
    transmitMove s = runCode e s := by
  simp [transmitMove, fetchTransmit, h, runFetched]

theorem transmitMove_of_noValue {s : State} (h : txSelect s = .noValue) :
    transmitMove s = .next (s.raiseFault .unwritten (.step .emit)) := by
  simp [transmitMove, fetchTransmit, h, runFetched]

theorem transmitMove_of_disabled {s : State} (h : txSelect s = .disabled) : transmitMove s = .next s := by
  simp [transmitMove, fetchTransmit, h, runFetched]

theorem dropMove_of_cons {s : State} {m : Move} {rest : List Move} (hs : s.schedule = m :: rest) :
    s.dropMove = { s with schedule := rest } := by
  simp [State.dropMove, hs]

theorem step_of_nil {s : State} (hf : s.faults = []) (hs : s.schedule = []) : step s = transmitMove s := by
  simp [step, fetch, transmitMove, faulted_eq_false.mpr hf, hs]

theorem step_of_blocked {s : State} {r : Request} {rest : List Move} (hf : s.faults = [])
    (hs : s.schedule = .request r :: rest) (hr : r.caller ∈ s.await) : step s = transmitMove s := by
  simp [step, fetch, transmitMove, faulted_eq_false.mpr hf, hs, awaits_eq_true.mpr hr]

theorem step_of_free {s : State} {r : Request} {rest : List Move} (hf : s.faults = [])
    (hs : s.schedule = .request r :: rest) (hr : r.caller ∉ s.await) :
    step s = runCode (.request r) { s with schedule := rest } := by
  simp [step, fetch, runFetched, faulted_eq_false.mpr hf, hs, awaits_eq_false.mpr hr, dropMove_of_cons hs]

theorem step_of_transmit {s : State} {rest : List Move} (hf : s.faults = [])
    (hs : s.schedule = .transmit :: rest) : step s = transmitMove { s with schedule := rest } := by
  have htx : txSelect { s with schedule := rest } = txSelect s := rfl
  rw [step, fetch, faulted_eq_false.mpr hf, if_neg Bool.false_ne_true, hs]
  cases h : txSelect s with
  | disabled => rw [transmitMove_of_disabled (htx.trans h), dropMove_of_cons hs]; rfl
  | noValue => rw [transmitMove_of_noValue (htx.trans h), dropMove_of_cons hs]; rfl
  | code e => rw [transmitMove_of_code (htx.trans h), dropMove_of_cons hs]; rfl

/-! ## A step runs what it decodes -/

/-- A decoded request has the caller of its encoding (R61). -/
theorem requester_of_decode {r : Request} {i : Instr} (h : decode (.request r) = .ok i) :
    requester i = some r.caller := by
  simp only [decode, decodeRequest] at h
  split at h
  case h_4 =>
    split at h
    · cases h; rfl
    · cases h
  all_goals cases h <;> rfl

theorem wf_of_requester {i : Instr} {c : Caller} (h : requester i = some c) (n : Nat) : i.wf n = c.wf n := by
  cases i <;> cases h <;> rfl

theorem runCode_of_decode {e : Encoding} {i : Instr} (hc : e.callerExists Config.nCallers = true)
    (hd : decode e = .ok i) (s : State) : runCode e s = exec i s := by
  simp [runCode, hc, hd]

/-- The Transmitter's selection needs no caller. -/
theorem callerExists_of_txSelect {s : State} {e : Encoding} (h : txSelect s = .code e) (n : Nat) :
    e.callerExists n = true := by
  rcases txSelect_code h with ⟨-, rfl⟩ | ⟨-, -, rfl⟩ | ⟨-, -, -, -, ⟨-, -, rfl⟩ | ⟨-, rfl⟩⟩ <;> rfl

/-- Settles O33: the step of each form of the schedule runs the encoding, and the decoder's answer is executed. -/
theorem stepRunsDecoded : Obligations.StepRunsDecoded := by
  refine ⟨fun s r rest i hf hs hr hd hwf => ?_, fun s e i hf htx hd => ?_⟩
  · have hc : r.caller.wf Config.nCallers = true := by rwa [← wf_of_requester (requester_of_decode hd)]
    exact (step_of_free hf hs hr).trans (runCode_of_decode (e := .request r) hc hd _)
  · have hrun : ∀ u, txSelect u = .code e → transmitMove u = exec i u := fun u hu =>
      (transmitMove_of_code hu).trans (runCode_of_decode (callerExists_of_txSelect hu _) hd u)
    refine ⟨fun hs => ?_, fun rest hs => ?_, fun r rest hs hr => ?_⟩
    · exact (step_of_nil hf hs).trans (hrun s htx)
    · exact (step_of_transmit hf hs).trans (hrun _ htx)
    · exact (step_of_blocked hf hs hr).trans (hrun s htx)

/-! ## Reads without a value -/

/-- Past the first checks of R94, a request that reads a register without a value raises F_UNWRITTEN. -/
theorem request_unwritten {s : State} {c : Caller} {q : Cause} (marks : State → List Bool) {k : State → Result}
    (h : CanIssue s c) (hl : s.life = .ready) (hm : false ∈ marks (s.issue c)) :
    atPort c s (fun t => whenReady q t (readsAll (marks t) q t (k t))) =
      .next (requestFault s c .unwritten q) := by
  rw [atPort_of_free _ h.1 h.2, whenReady_of_ready (by simpa using hl), readsAll_of_unwritten hm]
  rfl

theorem openCount_unwritten_faults {s : State} {c : Caller} (len : Nat) (buf : List Byte) (h : CanIssue s c)
    (hl : s.life = .ready) (ho : s.openCount.written = false) :
    exec (.openReq c len) s = .next (requestFault s c .unwritten (.request 0b001#3 c len)) ∧
    exec (.closeReq c len) s = .next (requestFault s c .unwritten (.request 0b010#3 c len)) ∧
    exec (.readReq c len) s = .next (requestFault s c .unwritten (.request 0b011#3 c len)) ∧
    exec (.writeReq c buf) s = .next (requestFault s c .unwritten (.request 0b100#3 c buf.length)) ∧
    exec (.shutdownReq c len) s = .next (requestFault s c .unwritten (.request 0b110#3 c len)) := by
  refine ⟨?_, ?_, ?_, ?_, ?_⟩ <;>
    simp only [exec, execOpenReq, execCloseReq, execReadReq, execWriteReq, execShutdownReq, whenOpen] <;>
    exact request_unwritten _ h hl (by simp [ho])

theorem shutdown_phase_unwritten {s : State} {c : Caller} (len : Nat) (h : CanIssue s c) (hl : s.life = .ready)
    (hp : s.phase.written = false) :
    exec (.shutdownReq c len) s = .next (requestFault s c .unwritten (.request 0b110#3 c len)) := by
  simp only [exec, execShutdownReq]
  exact request_unwritten _ h hl (by simp [hp])

theorem whenOpen_of_open {s : State} (ho : s.openCount = .wrote true) (q : Cause) (k : Result) :
    whenOpen q s k = k := by
  simp [whenOpen, readsAll, State.sessionOpen, ho]

/-- A 4-byte WRITE of an open session reads PHASE (R102). -/
theorem write_phase_unwritten {s : State} {c : Caller} {buf : List Byte} (h : CanIssue s c) (hl : s.life = .ready)
    (ho : s.openCount = .wrote true) (hp : s.phase.written = false) (hlen : buf.length = 4) :
    exec (.writeReq c buf) s = .next (requestFault s c .unwritten (.request 0b100#3 c 4)) := by
  obtain ⟨b0, b1, b2, b3, rfl⟩ := List.length_eq_four.mp hlen
  have htake : takeWrite c [b0, b1, b2, b3] (s.issue c) = .next (requestFault s c .unwritten (.request 0b100#3 c 4)) :=
    readsAll_of_unwritten (by simp [hp]) _ _ _
  rw [exec, execWriteReq, atPort_of_free _ h.1 h.2, whenReady_of_ready (by simpa using hl),
    whenOpen_of_open (by simpa using ho), htake]

section EmitUnwritten
variable {s : State} (hf : s.faults = []) (hp : s.phase = .wrote .send) (hh : s.holding = .wrote false)
  (ho : s.lineOwned = true)
include hf hp hh ho

/-- An EMIT that reads a register without a value, at its gate or after it, raises F_UNWRITTEN. -/
theorem whenEmitting_unwritten {marks : List Bool} (k : Result)
    (h : s.symIdx.written = false ∨ s.stepIdx.written = false ∨ false ∈ marks) :
    whenEmitting s (readsAll marks (.step .emit) s k) = .next (stepFault s .unwritten (.step .emit)) := by
  rw [whenEmitting_of_owned hf hp hh ho]
  by_cases hpos : false ∈ [s.symIdx.written, s.stepIdx.written]
  · exact readsAll_of_unwritten hpos _ _ _
  · have hmarks : false ∈ marks := by
      rcases h with h | h | h
      · simp [h] at hpos
      · simp [h] at hpos
      · exact h
    rw [readsAll_of_written _ _ _ (by simpa using hpos)]
    exact readsAll_of_unwritten hmarks _ _ _

theorem position_unwritten_faults
    (h : s.symIdx.written = false ∨ s.stepIdx.written = false ∨ s.period.written = false) {i : Instr}
    (hi : IsEmit i) : exec i s = .next (stepFault s .unwritten (.step .emit)) := by
  have hsym : s.symIdx.written = false ∨ s.stepIdx.written = false ∨
      false ∈ [slotWritten s, s.period.written] := h.imp_right (Or.imp_right fun h => by simp [h])
  have hterm : s.symIdx.written = false ∨ s.stepIdx.written = false ∨ false ∈ [s.period.written] :=
    h.imp_right (Or.imp_right fun h => by simp [h])
  rcases hi with rfl | rfl | rfl | rfl
  · exact whenEmitting_unwritten hf hp hh ho _ hsym
  · exact whenEmitting_unwritten hf hp hh ho _ hsym
  · exact whenEmitting_unwritten hf hp hh ho _ hsym
  · exact whenEmitting_unwritten hf hp hh ho _ hterm

theorem slot_unwritten_faults (h : slotWritten s = false) {i : Instr} (hi : i = .sym0 ∨ i = .sym1 ∨ i = .sym2) :
    exec i s = .next (stepFault s .unwritten (.step .emit)) := by
  have hslot : s.symIdx.written = false ∨ s.stepIdx.written = false ∨
      false ∈ [slotWritten s, s.period.written] := .inr (.inr (by simp [h]))
  rcases hi with rfl | rfl | rfl <;> exact whenEmitting_unwritten hf hp hh ho _ hslot

end EmitUnwritten

/-- `slotWritten` is the mark of WORK at STEP 0 and of SYM otherwise (R88). -/
theorem slotWritten_eq_false {s : State} :
    slotWritten s = false ↔
      s.stepIdx.held = 0 ∧ s.work.written = false ∨ s.stepIdx.held ≠ 0 ∧ s.sym.written = false := by
  unfold slotWritten
  split <;> tauto

/-- The end of a frame reads REP_LEFT, and then ACC before another frame or WRITER at the end of the transmission (R90). -/
theorem frame_end_unwritten {s : State} (hidx : 12 ≤ s.symIdx.held) (hstep : s.stepIdx.held ≠ 0)
    (h : s.repLeft.written = false ∨ (s.repLeft.held ≠ 1 ∧ s.acc.written = false) ∨
      (s.repLeft.held = 1 ∧ s.writer.written = false)) : false ∈ expireReads s := by
  have hframe : endsFrame s = true := decide_eq_true ⟨BitVec.not_lt.mpr hidx, hstep⟩
  have hends : endsTransmission s = true ↔ s.repLeft.held = 1 := by
    rw [endsTransmission, hframe, Bool.true_and, beq_iff_eq]
    constructor <;> intro h <;> bv_omega
  rcases h with h | ⟨hne, h⟩ | ⟨heq, h⟩
  · simp [expireReads, hframe, h]
  · simp [expireReads, hframe, h, mt hends.mp hne]
  · simp [expireReads, h, hends.mpr heq]

theorem expire_unwritten {s : State} (hf : s.faults = []) (hp : s.phase = .wrote .send)
    (hh : s.holding = .wrote true) (h : false ∈ expireReads s) :
    exec .expire s = .next (stepFault s .unwritten (.step .expire)) :=
  (whenHolding_of_holding hf hp hh _).trans (readsAll_of_unwritten h _ _ _)

/-- While frames are sent the selection needs HOLDING, and with no hold running the position and its slot (log 18). -/
theorem txSelect_noValue {s : State} (hp : s.phase = .wrote .send)
    (h : s.holding.written = false ∨ (s.holding = .wrote false ∧
      (s.symIdx.written = false ∨ s.stepIdx.written = false ∨ (s.symIdx.held < 12 ∧ slotWritten s = false)))) :
    txSelect s = .noValue := by
  rcases h with h | ⟨hh, h | h | ⟨hidx, h⟩⟩
  · simp [txSelect, hp, h]
  · simp [txSelect, hp, hh, h]
  · simp [txSelect, hp, hh, h]
  · simp only [txSelect, hp, hh, h, hidx]
    simp

/-- Settles O18: each read is tested before any write, at the request port, in ENCODE, EMIT and EXPIRE, and in the selection
of the Transmitter's operation. -/
theorem unwrittenReadFaults : Obligations.UnwrittenReadFaults := by
  refine ⟨fun s c len buf h hl ho => openCount_unwritten_faults len buf h hl ho,
    fun s c len buf h hl ho hp => ⟨fun hopen hlen => ?_, ?_⟩, fun s hf hp hc => ?_,
    fun s hf ho hp hh => ⟨fun h i hi => ?_, fun h i hi => ?_⟩,
    fun s hf hp hh => ⟨fun h => ?_, fun hidx hstep h => ?_⟩, fun s hf hp h => ?_⟩
  · exact write_phase_unwritten h hl ((Reg.eq_wrote_iff _ _).mpr ⟨ho, hopen⟩) hp hlen
  · exact shutdown_phase_unwritten len h hl hp
  · exact (execEncode_of_pending hf hp).trans (readsAll_of_unwritten (by simp [hc]) _ _ _)
  · exact position_unwritten_faults hf hp hh ho h hi
  · exact slot_unwritten_faults hf hp hh ho (slotWritten_eq_false.mpr h) hi
  · refine expire_unwritten hf hp hh ?_
    rcases h with h | h | h <;> simp [expireReads, h]
  · exact expire_unwritten hf hp hh (frame_end_unwritten hidx hstep h)
  · have htx := txSelect_noValue hp h
    exact ⟨fun hs => (step_of_nil hf hs).trans (transmitMove_of_noValue htx),
      fun rest hs => (step_of_transmit hf hs).trans (transmitMove_of_noValue htx),
      fun r rest hs hr => (step_of_blocked hf hs hr).trans (transmitMove_of_noValue htx)⟩

/-! ## Progress of the Transmitter -/

/-- EMIT of a symbol where it is enabled (R88). -/
theorem EmitsSymbol.emitSymbol_eq {s : State} {code : BitVec 2} (h : EmitsSymbol s code)
    {pulses : List (Bool × Nat)} {high : Bool} {m : Nat} (hm : pulses[s.stepIdx.held.toNat]? = some (high, m)) :
    emitSymbol code pulses s = .next ((takeSymbol s).drive high m) := by
  obtain ⟨hf, ho, hp, hh, ⟨hidx, hstep, hperiod⟩, hlt, hslot, hcode⟩ := h
  rw [emitSymbol, whenEmitting_of_owned hf hp hh ho, readsAll_of_written _ _ _ (by simp [hidx, hstep]),
    readsAll_of_written _ _ _ (by simp [hslot, hperiod]), if_pos ⟨hlt, hcode⟩, emitTransition, takeSymbol_stepIdx, hm]

/-- EMIT of a symbol whose pulses cover every STEP answers a next state and records nothing. -/
theorem EmitsSymbol.emits {s : State} {code : BitVec 2} (h : EmitsSymbol s code) {pulses : List (Bool × Nat)}
    (htotal : (pulses[s.stepIdx.held.toNat]?).isSome) :
    ∃ t, emitSymbol code pulses s = .next t ∧ t.faults = [] := by
  obtain ⟨⟨high, m⟩, hm⟩ := Option.isSome_iff_exists.mp htotal
  exact ⟨_, h.emitSymbol_eq hm, by simpa using h.noFault⟩

/-- TERM where it is enabled (R84). -/
theorem EmitsTerm.emits {s : State} (h : EmitsTerm s) : ∃ t, execTerm s = .next t ∧ t.faults = [] := by
  obtain ⟨hf, ho, hp, hh, ⟨hidx, hstep, hperiod⟩, hgap⟩ := h
  have htotal : (pulseTerm[s.stepIdx.held.toNat]?).isSome := by
    simpa [pulseTerm] using Nat.le_of_lt_succ (show s.stepIdx.held.toNat < 2 from hgap)
  obtain ⟨⟨high, m⟩, hm⟩ := Option.isSome_iff_exists.mp htotal
  refine ⟨s.drive high m, ?_, hf⟩
  rw [execTerm_of_owned hf hp hh ho ⟨by simp [hidx], hstep, hperiod⟩, if_pos (by simp [hidx]), emitTransition, hm]

/-- The slot being sent is a trit (R38). -/
theorem Inv.slotCode_ne_three {s : State} (hi : Inv s) : slotCode s ≠ 3 := by
  obtain ⟨-, hwork, hsym⟩ := hi.slots
  unfold slotCode
  split
  · exact hwork 0 (by decide)
  · exact hsym

section Progress
variable {s : State} (hi : Inv s) (hf : s.faults = [])
include hi hf

/-- Between two transitions of a symbol every register EMIT reads has a value (R35, R38). -/
theorem Inv.emitsSymbol (hp : s.phase = .wrote .send) (hh : s.holding = .wrote false) (hidx : s.symIdx.held < 12) :
    EmitsSymbol s (slotCode s) := by
  obtain ⟨⟨hperiod, -, -, hwork, hsymIdx, hstep⟩, -, hread⟩ := hi.sending hp
  refine ⟨hf, hi.owned.mpr (hi.ready_of_inFlight hp (by decide)), hp, hh, ⟨hsymIdx, hstep, hperiod⟩, hidx, ?_, rfl⟩
  unfold slotWritten
  split
  · exact hwork
  · rename_i hne; exact hread hidx (.inl hne)

theorem Inv.symbol_runs (hp : s.phase = .wrote .send) (hh : s.holding = .wrote false) (hidx : s.symIdx.held < 12) :
    ∃ t, runCode (.symbol (slotCode s)) s = .next t ∧ t.faults = [] := by
  have hemits := hi.emitsSymbol hf hp hh hidx
  obtain ⟨h0, h1, h2⟩ := pulse_total s.stepIdx.held
  have htrit : ∀ c : BitVec 2, c ≠ 3 → c = 0 ∨ c = 1 ∨ c = 2 := by decide
  rcases htrit _ (hi.slotCode_ne_three) with hc | hc | hc <;> rw [hc] at hemits ⊢
  · exact hemits.emits h0
  · exact hemits.emits h1
  · exact hemits.emits h2

theorem Inv.term_runs (hp : s.phase = .wrote .send) (hh : s.holding = .wrote false) (hidx : ¬ s.symIdx.held < 12) :
    ∃ t, runCode (.seqIndex s.symIdx.held) s = .next t ∧ t.faults = [] := by
  obtain ⟨hperiod, -, -, -, hsymIdx, hstep⟩ := (hi.sending hp).written
  obtain ⟨hle, hgap⟩ := hi.position
  have h12 : s.symIdx.held = 12 := by bv_omega
  have hemits : EmitsTerm s :=
    ⟨hf, hi.owned.mpr (hi.ready_of_inFlight hp (by decide)), hp, hh,
      ⟨(Reg.eq_wrote_iff _ _).mpr ⟨hsymIdx, h12⟩, hstep, hperiod⟩, by have := hgap h12; bv_omega⟩
  rw [h12]
  exact hemits.emits

/-- While a hold runs every register EXPIRE reads has a value (R35, R38). -/
theorem Inv.expire_runs (hp : s.phase = .wrote .send) (hh : s.holding = .wrote true) :
    ∃ t, runCode (.timing 1#1) s = .next t ∧ t.faults = [] := by
  obtain ⟨-, hrep, hacc, -, hsymIdx, hstep⟩ := (hi.sending hp).written
  obtain ⟨-, -, -, hwriter⟩ := hi.ready (hi.ready_of_inFlight hp (by decide))
  obtain ⟨-, hnom⟩ := hi.hold hh
  refine ⟨Machine.advance (s.elapse (holdDuration s.holdNom.held.toNat s.draws)), ?_, by simpa using hf⟩
  exact (whenHolding_of_holding hf hp hh _).trans
    (readsAll_of_written _ _ _ (by simp [expireReads, hrep, hacc, hsymIdx, hstep, hwriter, hnom]))

theorem Inv.encode_runs (hp : s.phase = .wrote .encode) :
    ∃ t, runCode (.phase Phase.encode.code) s = .next t ∧ t.faults = [] := by
  refine ⟨s.loadTelegram s.cmd.held, ?_, hf⟩
  exact (execEncode_of_pending hf hp).trans (readsAll_of_written _ _ _ (by simpa using hi.encoding hp))

/-- The selection finds a value in every register it reads (R35). -/
theorem Inv.txSelect_ne_noValue : txSelect s ≠ .noValue := by
  unfold txSelect
  split
  · simp
  · split
    · rename_i hp
      obtain ⟨-, -, -, -, hsymIdx, hstep⟩ := (hi.sending hp).written
      obtain ⟨-, -, hholding, -⟩ := hi.ready (hi.ready_of_inFlight hp (by decide))
      rw [if_pos hholding]
      split
      · simp
      · rename_i hh
        rw [if_pos (by simp [hsymIdx, hstep])]
        split
        · rename_i hidx
          have hfree : s.holding = .wrote false := (Reg.eq_wrote_iff _ _).mpr ⟨hholding, by simpa using hh⟩
          rw [if_pos (hi.emitsSymbol hf hp hfree hidx).slotIs.1]
          simp
        · simp
    · simp

/-- The Transmitter's move answers a next state and records nothing. -/
theorem Inv.transmitMove_runs : ∃ t, transmitMove s = .next t ∧ t.faults = [] := by
  cases htx : txSelect s with
  | disabled => exact ⟨s, transmitMove_of_disabled htx, hf⟩
  | noValue => exact absurd htx (hi.txSelect_ne_noValue hf)
  | code e =>
    rw [transmitMove_of_code htx]
    obtain ⟨hp, rfl⟩ | ⟨hp, hh, rfl⟩ | ⟨hp, hh, -, -, ⟨hidx, -, rfl⟩ | ⟨hidx, rfl⟩⟩ := txSelect_code htx
    · exact hi.encode_runs hf hp
    · exact hi.expire_runs hf hp hh
    · exact hi.symbol_runs hf hp hh hidx
    · exact hi.term_runs hf hp hh hidx

end Progress

/-! ## Progress of the requests -/

/-- The operation answers a next state. -/
def Answers (r : Result) : Prop := ∃ t, r = .next t

theorem answers_next (t : State) : Answers (.next t) := ⟨t, rfl⟩

theorem Answers.ite {p : Prop} [Decidable p] {r r' : Result} (h : Answers r) (h' : Answers r') :
    Answers (if p then r else r') := by
  split
  · exact h
  · exact h'

theorem Answers.readsAll {k : Result} (h : Answers k) (marks : List Bool) (q : Cause) (s : State) :
    Answers (readsAll marks q s k) := h.ite (answers_next _)

theorem Answers.whenReady {k : Result} (h : Answers k) (q : Cause) (s : State) : Answers (whenReady q s k) :=
  h.ite (answers_next _)

theorem Answers.whenOpen {k : Result} (h : Answers k) (q : Cause) (s : State) : Answers (whenOpen q s k) :=
  (h.ite (answers_next _)).readsAll _ _ _

theorem answers_takeWrite (c : Caller) (buf : List Byte) (s : State) : Answers (takeWrite c buf s) := by
  unfold takeWrite
  split
  · exact ((answers_next _).ite (answers_next _)).readsAll _ _ _
  · exact answers_next _

/-- Every request of a free caller answers a next state: its effect or a fault (R94). -/
theorem exec_answers {i : Instr} {c : Caller} {s : State} (hreq : requester i = some c) (h : CanIssue s c) :
    Answers (exec i s) := by
  cases i <;> cases hreq <;>
    simp only [exec, execOpenReq, execCloseReq, execReadReq, execWriteReq, execStartupReq, execShutdownReq,
      atPort_of_free _ h.1 h.2]
  case openReq => exact (((answers_next _).ite (answers_next _)).readsAll _ _ _).whenReady _ _
  case closeReq => exact ((answers_next _).whenOpen _ _).whenReady _ _
  case readReq => exact ((answers_next _).whenOpen _ _).whenReady _ _
  case writeReq => exact ((answers_takeWrite _ _ _).whenOpen _ _).whenReady _ _
  case startupReq => exact (answers_next _).ite (answers_next _)
  case shutdownReq => exact (((answers_next _).ite (answers_next _)).readsAll _ _ _).whenReady _ _

/-- A request of R60 is rejected for its `OP` alone. -/
theorem rejected_of_wf {r : Request} {err : DecodeError} (hb : r.bufferPresented = true)
    (h : decode (.request r) = .rejected err) : err = .reservedOp := by
  simp only [decode, decodeRequest] at h
  split at h
  case h_4 hop =>
    have hop : r.op = 0b100#3 := BitVec.eq_of_toNat_eq hop
    simp [Request.bufferPresented, hop] at hb
    simp [hb] at h
  all_goals cases h <;> rfl

/-- Under the invariants no request reads a register without a value, and none sends a symbol. -/
theorem Effect.fault_codes {i : Instr} {c : Caller} {s t : State} (he : Effect s i t)
    (hreq : requester i = some c) (hi : Inv s) (hf : s.faults = []) :
    ∀ f ∈ t.faults, f.code ≠ .unwritten ∧ f.code ≠ .symbolThree := by
  cases he with
  | requestFault q _ hc hread hsym =>
    intro f hmem
    obtain rfl : f = ⟨_, q, _⟩ := by simpa [hf] using hmem
    refine ⟨fun hu => ?_, hsym⟩
    obtain ⟨hl, hunwritten⟩ := hread hu
    obtain ⟨hopen, hphase, -, -⟩ := hi.ready hl
    simp [hopen, hphase] at hunwritten
  | stepFault q hnone => simp [hreq] at hnone
  | _ => simp [hf]

/-- A request of R60 of a free caller answers a next state, under the invariants without F_UNWRITTEN or F_SYMBOL3. -/
theorem Inv.request_runs {s : State} (hi : Inv s) (hf : s.faults = []) {r : Request} (hr : r.caller ∉ s.await)
    (hwf : r.wf Config.nCallers = true) :
    ∃ t, runCode (.request r) s = .next t ∧ ∀ f ∈ t.faults, f.code ≠ .unwritten ∧ f.code ≠ .symbolThree := by
  obtain ⟨hcaller, hbuf⟩ := Bool.and_eq_true_iff.mp hwf
  cases hd : decode (.request r) with
  | ok i =>
    have hreq := requester_of_decode hd
    obtain ⟨t, ht⟩ := exec_answers hreq ⟨hf, hr⟩
    exact ⟨t, (runCode_of_decode (e := .request r) hcaller hd s).trans ht, (exec_effect ht).2.fault_codes hreq hi hf⟩
  | rejected err =>
    obtain rfl := rejected_of_wf hbuf hd
    refine ⟨(s.issue r.caller).raiseFault .reservedOp (.request r.op r.caller r.len), ?_, by simp [hf]⟩
    simp only [runCode, Encoding.callerExists, hcaller, if_true, hd, execRejected, atPort_of_free _ hf hr]

/-- Settles O56: the head request of a free caller runs, and otherwise the Transmitter moves or the block waits. -/
theorem neverStuck : Obligations.NeverStuck := by
  intro s hi hf hhead
  have htransmit : ∀ u, Inv u → u.faults = [] → step s = transmitMove u →
      ∃ t, step s = .next t ∧ ∀ f ∈ t.faults, f.code ≠ .unwritten ∧ f.code ≠ .symbolThree := by
    intro u hu huf hstep
    obtain ⟨t, ht, htf⟩ := hu.transmitMove_runs huf
    exact ⟨t, hstep.trans ht, by simp [htf]⟩
  rcases hs : s.schedule with _ | ⟨r | _, rest⟩
  · exact htransmit s hi hf (step_of_nil hf hs)
  · by_cases hr : r.caller ∈ s.await
    · exact htransmit s hi hf (step_of_blocked hf hs hr)
    · rw [step_of_free hf hs hr]
      exact (hi.of_sameBlock rfl rfl : Inv { s with schedule := rest }).request_runs hf hr (hhead r rest hs)
  · exact htransmit { s with schedule := rest } (hi.of_sameBlock rfl rfl) hf (step_of_transmit hf hs)

/-! ## Power-on and the decoder's samples -/

theorem slotsLegal_zero : SlotsLegal 0 := fun j _ => by simp [slot]

/-- Settles O51: at power-on nothing is written, nobody waits and TRACE is empty. -/
theorem invariantsAtReset : Obligations.InvariantsAtReset where
  left :=
    { awaitWf := List.Pairwise.nil
      owned := by decide
      notReady := fun _ => .inl rfl
      ready := fun h => absurd h (by decide)
      idle := by decide
      encoding := fun h => absurd h (by decide)
      sending := fun h => absurd h (by decide)
      position := by decide
      slots := ⟨slotsLegal_zero, slotsLegal_zero, by decide⟩
      hold := fun h => absurd h (by decide)
      holdBound := by decide
      writerWaits := fun _ h => absurd h (Reg.blank_ne_wrote _ _)
      onlyWriter := fun _ _ hc => absurd hc List.not_mem_nil
      oneFault := by decide }
  right :=
    { sum := rfl
      running := fun h => absurd h (by decide)
      resting := fun _ _ hy => absurd hy List.not_mem_nil }

/-- Settles O2: the decoder computes each sample. -/
theorem sampleCodesDecode : Obligations.SampleCodesDecode :=
  ⟨rfl, rfl, rfl, rfl, rfl, rfl, rfl, rfl⟩

end Sys2Proof.Machine

/-! # The requests: the command word, the answers of WRITE, and the frames

The bytes of a WRITE as a number; the checks of a request where they do not pass; then what each request leaves unchanged,
read off the cases of its operation. -/

namespace Sys2Proof.Machine

/-! ## The command word -/

/-- Appending words is base-`2 ^ m` arithmetic. -/
theorem toNat_append_eq_add {n m : Nat} (x : BitVec n) (y : BitVec m) :
    (x ++ y).toNat = y.toNat + 2 ^ m * x.toNat := by
  rw [BitVec.toNat_append, ← Nat.shiftLeft_add_eq_or_of_lt y.isLt, Nat.shiftLeft_eq, Nat.mul_comm, Nat.add_comm]

/-- Settles O4: each append moves the bytes before it up by eight bits. -/
theorem commandWordLittleEndian : Obligations.CommandWordLittleEndian := by
  intro b0 b1 b2 b3
  simp only [commandWord, toNat_append_eq_add]
  omega

/-! ## The answers of WRITE -/

/-- A request that is answered leaves its caller as free as before (R32). -/
theorem issue_respond {s : State} {c : Caller} (hc : c ∉ s.await) (st : Status) (v : BitVec 32) :
    (s.issue c).respond c st v = answered s c st v := by
  simp [State.issue, State.respond, answered, awaitErase_awaitInsert hc]

theorem whenReady_of_not_ready {s : State} (hl : s.life ≠ .ready) (q : Cause) (k : Result) :
    whenReady q s k = .next (s.raiseFault .notReady q) := if_neg (mt isReady_eq_true.mp hl)

theorem whenOpen_of_closed {s : State} (ho : s.openCount = .wrote false) (q : Cause) (k : Result) :
    whenOpen q s k = .next (s.raiseFault .notOpen q) := by
  simp [whenOpen, readsAll, State.sessionOpen, ho]

/-- R103: the length guard comes before everything else of WRITE. -/
theorem takeWrite_of_length {c : Caller} {buf : List Byte} (h : buf.length ≠ 4) (s : State) :
    takeWrite c buf s = .next (s.respond c .invalidLength 0) := by
  unfold takeWrite
  split
  · simp at h
  · rfl

section Write
variable {s : State} {c : Caller} {buf : List Byte} (h : CanIssue s c)
include h

/-- Past the checks of R94 a free caller's WRITE is the length guard and what follows it. -/
theorem write_of_open (hl : s.life = .ready) (ho : s.openCount = .wrote true) :
    exec (.writeReq c buf) s = takeWrite c buf (s.issue c) := by
  rw [exec, execWriteReq, atPort_of_free _ h.1 h.2, whenReady_of_ready (by simpa using hl),
    whenOpen_of_open (by simpa using ho)]

theorem write_not_ready (hl : s.life ≠ .ready) :
    exec (.writeReq c buf) s = .next (requestFault s c .notReady (.request 0b100#3 c buf.length)) := by
  rw [exec, execWriteReq, atPort_of_free _ h.1 h.2, whenReady_of_not_ready (by simpa using hl)]
  rfl

theorem write_not_open (hl : s.life = .ready) (ho : s.openCount = .wrote false) :
    exec (.writeReq c buf) s = .next (requestFault s c .notOpen (.request 0b100#3 c buf.length)) := by
  rw [exec, execWriteReq, atPort_of_free _ h.1 h.2, whenReady_of_ready (by simpa using hl),
    whenOpen_of_closed (by simpa using ho)]
  rfl

theorem write_invalid_length (hl : s.life = .ready) (ho : s.openCount = .wrote true) (hlen : buf.length ≠ 4) :
    exec (.writeReq c buf) s = .next (answered s c .invalidLength 0) := by
  rw [write_of_open h hl ho, takeWrite_of_length hlen, issue_respond h.2]

/-- R103: no WRITE waits for a transmission in flight. -/
theorem write_in_flight (hl : s.life = .ready) (ho : s.openCount = .wrote true) (hlen : buf.length = 4)
    (hp : s.phase = .wrote .encode ∨ s.phase = .wrote .send) :
    exec (.writeReq c buf) s = .next (requestFault s c .concurrentWrite (.request 0b100#3 c 4)) := by
  obtain ⟨b0, b1, b2, b3, rfl⟩ := List.length_eq_four.mp hlen
  have hflight : (s.issue c).inFlight = true := by rcases hp with hp | hp <;> simp [hp]
  have hread : (s.issue c).phase.written = true := by rcases hp with hp | hp <;> simp [hp]
  rw [write_of_open h hl ho, takeWrite, readsAll_of_written _ _ _ (by simpa using hread), if_pos hflight]
  rfl

/-- R102: the WRITE is taken, and its caller is not answered. -/
theorem write_latches (hl : s.life = .ready) (ho : s.openCount = .wrote true) (hp : s.phase = .wrote .idle)
    (b0 b1 b2 b3 : Byte) :
    exec (.writeReq c [b0, b1, b2, b3]) s = .next ((s.issue c).latch c (commandWord b0 b1 b2 b3)) := by
  rw [write_of_open h hl ho, takeWrite, readsAll_of_written _ _ _ (by simp [hp]), if_neg (by simp [hp])]

end Write

/-- Settles O14: the checks of R94 in order, then the length guard, then PHASE. -/
theorem writeAnswers : Obligations.WriteAnswers := by
  intro s c buf
  refine ⟨if_pos rfl, fun h => ⟨write_not_ready h, write_not_open h, write_invalid_length h, write_in_flight h, ?_⟩⟩
  rintro hl ho hp b0 b1 b2 b3 rfl
  exact write_latches h hl ho hp b0 b1 b2 b3

/-! ## Frames of the requests -/

/-- Settles O47: OPEN, CLOSE, READ and SHUTDOWN fault, answer, move OPEN_COUNT or release the line. -/
theorem sessionFrames : Obligations.SessionFrames := by
  intro s t c len
  refine ⟨?_, fun h => ?_, fun h => ?_⟩
  · rintro (h | h)
    · obtain ⟨-, -, ⟨-, -, rfl⟩ | ⟨-, -, rfl⟩ | ⟨code, -, -, rfl⟩⟩ := execOpenReq_next h <;>
        exact ⟨by constructor <;> simp, rfl⟩
    · obtain ⟨-, -, ⟨-, -, rfl⟩ | ⟨code, -, -, rfl⟩⟩ := execCloseReq_next h <;>
        exact ⟨by constructor <;> simp, rfl⟩
  · obtain ⟨-, -, ⟨-, -, rfl⟩ | ⟨code, -, -, rfl⟩⟩ := execReadReq_next h <;>
      exact ⟨by constructor <;> simp, rfl, rfl⟩
  · obtain ⟨-, -, ⟨-, -, -, rfl⟩ | ⟨code, -, -, rfl⟩⟩ := execShutdownReq_next h <;>
      exact ⟨by constructor <;> simp, rfl, rfl⟩

/-- Settles O48: STARTUP becomes READY or FAILED or faults; WRITE answers, latches or faults. -/
theorem startupAndWriteFrames : Obligations.StartupAndWriteFrames := by
  intro s t c len buf
  refine ⟨fun h => ?_, fun h => ?_⟩
  · obtain ⟨-, -, ⟨-, rfl⟩ | ⟨-, rfl⟩ | ⟨-, rfl⟩⟩ := execStartupReq_next h <;>
      exact ⟨by constructor <;> simp, rfl⟩
  · obtain ⟨-, -, ⟨-, -, -, rfl⟩ | ⟨b0, b1, b2, b3, -, -, -, -, rfl⟩ | ⟨code, q, -, -, rfl⟩⟩ :=
      execWriteReq_next h <;> exact ⟨by constructor <;> simp, rfl, rfl⟩

end Sys2Proof.Machine

/-! # A transmission left alone

What is left to send is a list, read off the registers between two transitions. One EMIT with the EXPIRE that ends its hold
sends the head of that list and leaves the tail, so an induction on the list gives the whole telegram. -/

namespace Sys2Proof.Machine

/-! ## The trits of a packed word -/

/-- The packing loop shifts the accumulator past its own digits (R73). -/
theorem packTrits_div (n q acc : Nat) : packTrits n q acc / 4 ^ n = acc := by
  induction n generalizing q acc with
  | zero => simp [packTrits]
  | succ n ih =>
    rw [packTrits_succ, pow_succ, ← Nat.div_div_eq_div_mul, ih]
    omega

/-- Base-4 digit `j` of the packing of `n` trits is trit `n - 1 - j` of the quotient (R73, R74). -/
theorem packTrits_digit {n j : Nat} (hj : j < n) (q acc : Nat) :
    packTrits n q acc / 4 ^ j % 4 = q / 3 ^ (n - 1 - j) % 3 := by
  induction n generalizing q acc with
  | zero => omega
  | succ n ih =>
    rw [packTrits_succ]
    rcases Nat.lt_succ_iff_lt_or_eq.mp hj with hlt | rfl
    · have hexp : n + 1 - 1 - j = n - 1 - j + 1 := by omega
      rw [ih hlt, Nat.div_div_eq_div_mul, hexp, pow_succ']
    · rw [packTrits_div]
      simp only [Nat.add_sub_cancel, Nat.sub_self, pow_zero, Nat.div_one]
      omega

/-- R74: slot `j` of a packed payload holds trit `11 - j`. -/
theorem slot_encode12 (p : BitVec 20) {j : Nat} (hj : j < 12) : (slot (encode12 p) j).toNat = trit p (11 - j) := by
  rw [slot_toNat, encode12_toNat, packTrits_digit hj, trit]

/-- Taking the lowest slot out moves the others down (R88). -/
theorem slot_shiftRight (a : BitVec 24) (j : Nat) : slot (a >>> 2) j = slot a (j + 1) := by
  apply BitVec.eq_of_toNat_eq
  simp only [slot_toNat, BitVec.toNat_ushiftRight, Nat.shiftRight_eq_div_pow, Nat.div_div_eq_div_mul, pow_succ']
  rfl

/-! ## Pulses -/

@[simp] theorem symbolPulses_length (n : Nat) : (symbolPulses n).length = 4 := by
  unfold symbolPulses
  split <;> rfl

theorem symbolPulses_le (n : Nat) : ∀ x ∈ symbolPulses n, x.2 ≤ 31 := by
  unfold symbolPulses
  split <;> decide

/-- The pulses of the lowest `n` slots of a packed word, then the termination gap. -/
def slotPulses (a : BitVec 24) (n : Nat) : List (Bool × Nat) :=
  (List.range n).flatMap (fun j => symbolPulses (slot a j).toNat) ++ pulseTerm

theorem slotPulses_zero (a : BitVec 24) : slotPulses a 0 = pulseTerm := rfl

/-- The lowest slot is sent first (R88). -/
theorem slotPulses_succ (a : BitVec 24) (n : Nat) :
    slotPulses a (n + 1) = symbolPulses (slot a 0).toNat ++ slotPulses (a >>> 2) n := by
  simp [slotPulses, List.range_succ_eq_map, List.flatMap_map, slot_shiftRight]

/-- R86: the twelve slots of the encoded payload are the frame of the command word. -/
theorem slotPulses_encode12 (w : Word) : slotPulses (encode12 (payload w)) 12 = frameSpec w := by
  unfold slotPulses frameSpec
  congr 1
  refine List.flatMap_congr fun j hj => ?_
  rw [slot_encode12 _ (List.mem_range.mp hj)]

theorem frameSpec_length (w : Word) : (frameSpec w).length = 50 := by
  simp [frameSpec, List.length_flatMap]

theorem telegramSpec_length (w : Word) : (telegramSpec w).length = 2 ^ (repExp w).toNat * 50 := by
  simp [telegramSpec, frameSpec_length]

/-- R71: the repetition count is a power of two, and 8 bits hold it. -/
theorem repeats_toNat (w : Word) : (repeats w).toNat = 2 ^ (repExp w).toNat := by
  have hall : ∀ r : BitVec 3, (1#8 <<< r.toNat).toNat = 2 ^ r.toNat := by decide
  exact hall (repExp w)

/-! ## What is left to send -/

/-- Between two transitions: the pulses left of the frame being sent, read off the position, the slot and WORK (R88). -/
def frameLeft (s : State) : List (Bool × Nat) :=
  if s.symIdx.held < 12 then
    (symbolPulses (slotCode s).toNat).drop s.stepIdx.held.toNat ++
      slotPulses (takeSymbol s).work.held (11 - s.symIdx.held.toNat)
  else pulseTerm.drop s.stepIdx.held.toNat

/-- The pulses of the `n` frames still to come, all sent from ACC (R90). -/
def framesLeft (s : State) (n : Nat) : List (Bool × Nat) := (List.replicate n (slotPulses s.acc.held 12)).flatten

/-- The pulses left of the transmission. -/
def telegramLeft (s : State) : List (Bool × Nat) := frameLeft s ++ framesLeft s (s.repLeft.held.toNat - 1)

theorem frameLeft_of_symbol {s : State} (hidx : s.symIdx.held < 12) :
    frameLeft s = (symbolPulses (slotCode s).toNat).drop s.stepIdx.held.toNat ++
      slotPulses (takeSymbol s).work.held (11 - s.symIdx.held.toNat) := if_pos hidx

theorem frameLeft_of_gap {s : State} (hidx : s.symIdx.held = 12) :
    frameLeft s = pulseTerm.drop s.stepIdx.held.toNat := if_neg (by simp [hidx])

/-- At STEP 0 the slots of WORK are all still to send. -/
theorem frameLeft_of_step_zero {s : State} (hidx : s.symIdx.held ≤ 12) (hstep : s.stepIdx.held = 0) :
    frameLeft s = slotPulses s.work.held (12 - s.symIdx.held.toNat) := by
  unfold frameLeft
  split
  · rename_i hlt
    have hleft : 12 - s.symIdx.held.toNat = 11 - s.symIdx.held.toNat + 1 := by bv_omega
    simp [hleft, slotPulses_succ, slotCode, takeSymbol, hstep]
  · have hleft : 12 - s.symIdx.held.toNat = 0 := by bv_omega
    simp [hleft, slotPulses_zero, hstep]

/-- Past STEP 0 the slot being sent is in SYM, and WORK holds those after it. -/
theorem frameLeft_of_step_ne_zero {s : State} (hidx : s.symIdx.held < 12) (hstep : s.stepIdx.held ≠ 0) :
    frameLeft s = (symbolPulses s.sym.held.toNat).drop s.stepIdx.held.toNat ++
      slotPulses s.work.held (11 - s.symIdx.held.toNat) := by
  rw [frameLeft_of_symbol hidx, slotCode, if_neg hstep, takeSymbol, if_neg hstep]

theorem framesLeft_succ (s : State) (n : Nat) : framesLeft s (n + 1) = slotPulses s.acc.held 12 ++ framesLeft s n := by
  simp [framesLeft, List.replicate_succ]

/-! ## What a stretch of moves has sent -/

/-- From `s` to `t` the transitions `l` were sent at period `T`, each with its hold over, and no other time has passed. -/
structure Sent (T : BitVec 9) (l : List (Bool × Nat)) (s t : State) : Prop where
  trace : ∃ ts, t.trace = s.trace ++ ts ∧ ts.map (fun x => (x.high, x.nominal)) = l.map (timed T) ∧
    (∀ x ∈ ts, Elapsed x) ∧ t.now = s.now + (ts.map (fun x => x.actual.getD 0)).sum
  kept  : t.cmd = s.cmd ∧ t.openCount = s.openCount ∧ t.life = s.life ∧ t.faults = s.faults

theorem Sent.nil {T : BitVec 9} {s t : State} (htrace : t.trace = s.trace) (hnow : t.now = s.now)
    (hkept : t.cmd = s.cmd ∧ t.openCount = s.openCount ∧ t.life = s.life ∧ t.faults = s.faults) :
    Sent T [] s t :=
  ⟨⟨[], by simp [htrace], rfl, by simp, by simp [hnow]⟩, hkept⟩

theorem Sent.trans {T : BitVec 9} {l l' : List (Bool × Nat)} {s t u : State} (h : Sent T l s t)
    (h' : Sent T l' t u) : Sent T (l ++ l') s u := by
  obtain ⟨⟨ts, htrace, hts, helapsed, hnow⟩, hcmd, hopen, hlife, hfaults⟩ := h
  obtain ⟨⟨ts', htrace', hts', helapsed', hnow'⟩, hcmd', hopen', hlife', hfaults'⟩ := h'
  refine ⟨⟨ts ++ ts', ?_, ?_, ?_, ?_⟩, hcmd'.trans hcmd, hopen'.trans hopen, hlife'.trans hlife,
    hfaults'.trans hfaults⟩
  · rw [htrace', htrace, List.append_assoc]
  · rw [List.map_append, List.map_append, hts, hts']
  · exact fun x hx => (List.mem_append.mp hx).elim (helapsed x) (helapsed' x)
  · rw [hnow', hnow, List.map_append, List.sum_append, Nat.add_assoc]

/-- The hold that runs is over, before ADVANCE (R89). -/
def holdOver (s : State) : State := s.elapse (holdDuration s.holdNom.held.toNat s.draws)

/-- A transition and the end of its hold (R88, R89). -/
theorem Sent.transition {T : BitVec 9} {s : State} (hT : s.period = .wrote T) {high : Bool} {m : Nat}
    (hm : m ≤ 31) : Sent T [(high, m)] s (holdOver (s.drive high m)) := by
  have hover : holdOver (s.drive high m) =
      (s.drive high m).elapse (holdDuration (nominalHold m T) s.draws) := by
    rw [holdOver, drive_holdNom, Reg.wrote_held, ofNat_nominalHold hm, hT, Reg.wrote_held, drive_draws]
  rw [hover]
  refine ⟨⟨[⟨high, nominalHold m T, some (holdDuration (nominalHold m T) s.draws)⟩], ?_, rfl, ?_, ?_⟩,
    rfl, rfl, rfl, rfl⟩
  · simp [hT, setLastActual_append]
  · simpa using ⟨_, rfl, inWindow_holdDuration _ _⟩
  · simp

/-- The whole of a transition: EMIT drives from `v`, which is `s` with its slot taken, and EXPIRE advances. -/
theorem Sent.emit_expire {T : BitVec 9} {s v : State} (hv : Sent T [] s v) (hT : v.period = .wrote T) {high : Bool}
    {m : Nat} (hm : m ≤ 31) : Sent T [(high, m)] s (advance (holdOver (v.drive high m))) :=
  (hv.trans (.transition hT hm)).trans (l' := []) (.nil (by simp) (by simp) (by simp))

/-- Nobody was answered between the two states, and nobody became blocked or free. -/
def Unanswered (s t : State) : Prop := t.responses = s.responses ∧ t.await = s.await

/-- The transmission that ran in `s` for caller `c` has ended in `t` (R90). -/
structure Ended (c : Caller) (s t : State) : Prop where
  low    : t.line = .level false
  idle   : t.phase = .wrote .idle ∧ t.writer = .wrote none
  answer : t.responses = s.responses ++ [⟨c, .ok, 4⟩] ∧ t.await = awaitErase c s.await

theorem Unanswered.trans {s t u : State} (h : Unanswered s t) (h' : Unanswered t u) : Unanswered s u :=
  ⟨h'.1.trans h.1, h'.2.trans h.2⟩

theorem unanswered_holdOver (s : State) : Unanswered s (holdOver s) := ⟨rfl, rfl⟩

theorem Ended.of_unanswered {c : Caller} {s t u : State} (h : Unanswered s t) (h' : Ended c t u) : Ended c s u :=
  ⟨h'.low, h'.idle, by rw [← h.1, ← h.2]; exact h'.answer⟩

/-! ## The registers of a transmission -/

/-- Frames are sent at period `T` for caller `c`, with nothing scheduled; a hold may run or not. -/
structure Transmitting (T : BitVec 9) (c : Caller) (s : State) : Prop where
  noFault : s.faults = []
  alone   : s.schedule = []
  owned   : s.lineOwned = true
  sending : s.phase = .wrote .send
  period  : s.period = .wrote T
  writer  : s.writer = .wrote (some c)
  written : s.repLeft.written = true ∧ s.acc.written = true ∧ s.work.written = true ∧
    s.symIdx.written = true ∧ s.stepIdx.written = true
  frames  : 1 ≤ s.repLeft.held.toNat
  slots   : SlotsLegal s.acc.held ∧ SlotsLegal s.work.held

/-- The Transmitter is between two transitions, at a slot that is a trit or in the termination gap. -/
structure Sends (T : BitVec 9) (c : Caller) (s : State) : Prop where
  registers : Transmitting T c s
  noHold    : s.holding = .wrote false
  place     : (s.symIdx.held < 12 ∧ slotWritten s = true ∧ slotCode s ≠ 3) ∨
    (s.symIdx.held = 12 ∧ s.stepIdx.held < 2)

/-- From `s` to `t` nobody was answered, and in `t` the Transmitter has `l` left to send. -/
structure GoesOn (T : BitVec 9) (c : Caller) (l : List (Bool × Nat)) (s t : State) : Prop where
  sends : Sends T c t
  left  : telegramLeft t = l
  quiet : Unanswered s t

theorem GoesOn.of_unanswered {T : BitVec 9} {c : Caller} {l : List (Bool × Nat)} {s t u : State}
    (h : Unanswered s t) (h' : GoesOn T c l t u) : GoesOn T c l s u :=
  ⟨h'.sends, h'.left, h.trans h'.quiet⟩

section Transmission
variable {T : BitVec 9} {c : Caller} {s : State}

theorem Transmitting.takeSymbol (h : Transmitting T c s) : Transmitting T c (takeSymbol s) := by
  unfold Machine.takeSymbol
  split
  · obtain ⟨hrep, hacc, -, hpos⟩ := h.written
    exact { h with
      written := ⟨hrep, hacc, rfl, hpos⟩
      slots := ⟨h.slots.1, h.slots.2.shiftRight⟩ }
  · exact h

theorem Transmitting.drive (h : Transmitting T c s) (high : Bool) (m : Nat) : Transmitting T c (s.drive high m) :=
  { h with }

theorem Transmitting.holdOver (h : Transmitting T c s) : Transmitting T c (holdOver s) := { h with }

theorem Transmitting.setPosition (h : Transmitting T c s) (idx : BitVec 4) (k : BitVec 2) :
    Transmitting T c (s.setPosition idx k) := by
  obtain ⟨hrep, hacc, hwork, -⟩ := h.written
  exact { h with written := ⟨hrep, hacc, hwork, rfl, rfl⟩ }

/-- R90: another frame is sent from ACC. -/
theorem Transmitting.nextFrame (h : Transmitting T c s) (hrep : s.repLeft.held - 1 ≠ 0) :
    Transmitting T c s.countFrame.reloadWork := by
  obtain ⟨-, hacc, -, hpos⟩ := h.written
  exact { h with
    written := ⟨rfl, hacc, rfl, hpos⟩
    frames := by
      have hlow := h.frames
      simp only [reloadWork_repLeft, countFrame_repLeft, Reg.wrote_held]
      bv_omega
    slots := ⟨h.slots.1, h.slots.1⟩ }

/-- At STEP 0 the slot to send is the lowest of WORK. -/
theorem Transmitting.sends_of_step_zero (h : Transmitting T c s) (hh : s.holding = .wrote false)
    (hidx : s.symIdx.held ≤ 12) (hstep : s.stepIdx.held = 0) : Sends T c s := by
  refine ⟨h, hh, ?_⟩
  by_cases h12 : s.symIdx.held < 12
  · obtain ⟨-, -, hwork, -⟩ := h.written
    refine .inl ⟨h12, by simpa [slotWritten, hstep] using hwork, ?_⟩
    simpa [slotCode, hstep] using h.slots.2 0 (by decide)
  · exact .inr ⟨by bv_omega, by simp [hstep]⟩

/-! ## ADVANCE in a transmission -/

/-- ADVANCE within a symbol or at its end: the rest of the symbol is left, then the slots of WORK, then the other frames. -/
theorem Transmitting.advance_symbol (h : Transmitting T c s) (hh : s.holding = .wrote false)
    (hidx : s.symIdx.held < 12) (hwritten : s.sym.written = true) (hsym : s.sym.held ≠ 3) :
    GoesOn T c ((symbolPulses s.sym.held.toNat).drop (s.stepIdx.held.toNat + 1) ++
      slotPulses s.work.held (11 - s.symIdx.held.toNat) ++ framesLeft s (s.repLeft.held.toNat - 1)) s (advance s) := by
  by_cases hstep : s.stepIdx.held = 3
  · have hadvance : advance s = s.setPosition (s.symIdx.held + 1) 0 := by
      rw [advance, if_pos hidx, if_pos hstep]
    have hle : s.symIdx.held + 1 ≤ 12 := by bv_omega
    have hleft : 12 - (s.symIdx.held + 1).toNat = 11 - s.symIdx.held.toNat := by bv_omega
    have hdone : (symbolPulses s.sym.held.toNat).drop (s.stepIdx.held.toNat + 1) = [] := by simp [hstep]
    rw [hadvance, hdone]
    refine ⟨(h.setPosition _ _).sends_of_step_zero hh hle rfl, ?_, rfl, rfl⟩
    rw [telegramLeft, frameLeft_of_step_zero hle rfl, setPosition_symIdx, Reg.wrote_held, hleft]
    rfl
  · have hadvance : advance s = s.setPosition s.symIdx.held (s.stepIdx.held + 1) := by
      rw [advance, if_pos hidx, if_neg hstep]
    have hnext : (advance s).stepIdx.held ≠ 0 := by
      rw [hadvance, setPosition_stepIdx, Reg.wrote_held]
      bv_omega
    have hnat : (s.stepIdx.held + 1).toNat = s.stepIdx.held.toNat + 1 := by bv_omega
    rw [hadvance] at hnext ⊢
    refine ⟨⟨h.setPosition _ _, hh, .inl ⟨hidx, ?_, ?_⟩⟩, ?_, rfl, rfl⟩
    · rwa [slotWritten, if_neg hnext]
    · rwa [slotCode, if_neg hnext]
    · rw [telegramLeft, frameLeft_of_step_ne_zero (by exact hidx) hnext, setPosition_stepIdx, Reg.wrote_held, hnat]
      rfl

/-- ADVANCE between the two transitions of the termination gap. -/
theorem Transmitting.advance_gap (h : Transmitting T c s) (hh : s.holding = .wrote false)
    (hidx : s.symIdx.held = 12) (hstep : s.stepIdx.held = 0) :
    GoesOn T c (pulseTerm.drop 1 ++ framesLeft s (s.repLeft.held.toNat - 1)) s (advance s) := by
  have hadvance : advance s = s.setPosition 12 1 := by
    rw [advance, if_neg (by simp [hidx]), if_pos hstep, hidx]
  rw [hadvance]
  exact ⟨⟨h.setPosition _ _, hh, .inr ⟨rfl, by simp⟩⟩, rfl, rfl, rfl⟩

/-- ADVANCE at the end of a frame that is not the last. -/
theorem Transmitting.advance_frame (h : Transmitting T c s) (hh : s.holding = .wrote false)
    (hidx : s.symIdx.held = 12) (hstep : s.stepIdx.held ≠ 0) (hrep : s.repLeft.held - 1 ≠ 0) :
    GoesOn T c (framesLeft s (s.repLeft.held.toNat - 1)) s (advance s) := by
  have hadvance : advance s = (s.setPosition 0 0).countFrame.reloadWork := by
    rw [advance, if_neg (by simp [hidx]), if_neg hstep, endFrame, if_neg hrep]
  have hcount : s.repLeft.held.toNat - 1 = (s.repLeft.held - 1).toNat - 1 + 1 := by
    have := h.frames
    bv_omega
  rw [hadvance]
  refine ⟨((h.setPosition 0 0).nextFrame hrep).sends_of_step_zero hh (by simp) rfl, ?_, rfl, rfl⟩
  rw [telegramLeft, frameLeft_of_step_zero (by simp) rfl, hcount, framesLeft_succ]
  rfl

/-- ADVANCE at the end of the last frame answers the writer. -/
theorem Transmitting.advance_last (h : Transmitting T c s) (hlow : s.line = .level false)
    (hidx : s.symIdx.held = 12) (hstep : s.stepIdx.held ≠ 0) (hrep : s.repLeft.held - 1 = 0) :
    Ended c s (advance s) := by
  have hadvance : advance s = ((s.setPosition 0 0).countFrame.respond c .ok 4).goIdle := by
    rw [advance, if_neg (by simp [hidx]), if_neg hstep, endFrame, if_pos hrep, finishTransmission,
      countFrame_writer, setPosition_writer, h.writer]
    rfl
  rw [hadvance]
  exact ⟨hlow, ⟨rfl, rfl⟩, rfl, rfl⟩

/-! ## The two steps of a transition -/

/-- The Transmitter's step at a symbol sends the pulse that STEP selects (R88). -/
theorem Sends.symbol_step (h : Sends T c s) (hidx : s.symIdx.held < 12) (hslot : slotWritten s = true)
    (hcode : slotCode s ≠ 3) :
    ∃ high m, (symbolPulses (slotCode s).toNat)[s.stepIdx.held.toNat]? = some (high, m) ∧ m ≤ 31 ∧
      step s = .next ((takeSymbol s).drive high m) := by
  obtain ⟨⟨high, m⟩, hx⟩ : ∃ x, (symbolPulses (slotCode s).toNat)[s.stepIdx.held.toNat]? = some x :=
    Option.isSome_iff_exists.mp (by simpa using s.stepIdx.held.isLt)
  refine ⟨high, m, hx, symbolPulses_le _ _ (List.mem_of_getElem? hx), ?_⟩
  obtain ⟨hf, halone, howned, hp, hT, -, ⟨-, -, -, hsymIdx, hstepIdx⟩, -, -⟩ := h.registers
  have hemits : EmitsSymbol s (slotCode s) :=
    ⟨hf, howned, hp, h.noHold, ⟨hsymIdx, hstepIdx, by simp [hT]⟩, hidx, hslot, rfl⟩
  have htx : txSelect s = .code (.symbol (slotCode s)) := by
    simp only [txSelect, hp, h.noHold, hsymIdx, hstepIdx, hidx, hslot]
    simp
  rw [step_of_nil hf halone, transmitMove_of_code htx]
  have htrit : ∀ k : BitVec 2, k ≠ 3 → k = 0 ∨ k = 1 ∨ k = 2 := by decide
  rcases htrit _ hcode with hk | hk | hk <;> rw [hk] at hemits hx ⊢ <;> exact hemits.emitSymbol_eq hx

/-- The Transmitter's step in the termination gap (R84). -/
theorem Sends.term_step (h : Sends T c s) (hidx : s.symIdx.held = 12) {high : Bool} {m : Nat}
    (hx : pulseTerm[s.stepIdx.held.toNat]? = some (high, m)) : step s = .next (s.drive high m) := by
  obtain ⟨hf, halone, howned, hp, hT, -, ⟨-, -, -, hsymIdx, hstepIdx⟩, -, -⟩ := h.registers
  have htx : txSelect s = .code (.seqIndex 12) := by
    simp [txSelect, hp, h.noHold, hsymIdx, hstepIdx, hidx]
  rw [step_of_nil hf halone, transmitMove_of_code htx]
  refine (execTerm_of_owned hf hp h.noHold howned ⟨hsymIdx, hstepIdx, by simp [hT]⟩).trans ?_
  rw [if_pos hidx, emitTransition, hx]

/-- The Transmitter's step while a hold runs ends it (R89). -/
theorem Transmitting.hold_step (h : Transmitting T c s) (hh : s.holding = .wrote true)
    (hnom : s.holdNom.written = true) : step s = .next (advance (Machine.holdOver s)) := by
  obtain ⟨hf, halone, -, hp, -, hw, ⟨hrep, hacc, -, hsymIdx, hstepIdx⟩, -, -⟩ := h
  have htx : txSelect s = .code (.timing 1#1) := by simp [txSelect, hp, hh]
  rw [step_of_nil hf halone, transmitMove_of_code htx]
  exact (whenHolding_of_holding hf hp hh _).trans
    (readsAll_of_written _ _ _ (by simp [expireReads, hrep, hacc, hsymIdx, hstepIdx, hw, hnom]))

/-- After the slot is taken SYM holds the code that was sent (R88). -/
theorem takeSymbol_sym_held (s : State) : (takeSymbol s).sym.held = slotCode s := by
  unfold takeSymbol slotCode
  split <;> rfl

end Transmission

section Run
variable {T : BitVec 9} {c : Caller} {s : State}

/-- The two moves, to `u` and to `t`, that send the transition `x` from `s` with `rest` left to send after it. -/
structure SendsOne (T : BitVec 9) (c : Caller) (x : Bool × Nat) (rest : List (Bool × Nat)) (s u t : State) : Prop where
  left    : telegramLeft s = x :: rest
  emits   : step s = .next u
  expires : step u = .next t
  quiet   : Unanswered s u
  sent    : Sent T [x] s t
  after   : (rest = [] ∧ Ended c u t) ∨ GoesOn T c rest u t

/-- In a transmission the hold that an EMIT starts is ended by the move after it. -/
theorem Transmitting.drive_step (h : Transmitting T c s) (high : Bool) (m : Nat) :
    step (s.drive high m) = .next (advance (Machine.holdOver (s.drive high m))) :=
  (h.drive high m).hold_step rfl rfl

/-- The transition at a symbol. -/
theorem Sends.symbol_sends (h : Sends T c s) (hidx : s.symIdx.held < 12) (hslot : slotWritten s = true)
    (hcode : slotCode s ≠ 3) : ∃ x rest u t, SendsOne T c x rest s u t := by
  obtain ⟨high, m, hx, hm, hstep⟩ := h.symbol_step hidx hslot hcode
  have htaken : Transmitting T c (takeSymbol s) := h.registers.takeSymbol
  have hquiet : Unanswered s ((takeSymbol s).drive high m) := ⟨by simp, by simp⟩
  have hgoes := (htaken.drive high m).holdOver.advance_symbol rfl (by simpa [holdOver] using hidx)
    (by simpa [holdOver] using takeSymbol_sym_written hslot) (by simpa [holdOver, takeSymbol_sym_held] using hcode)
  refine ⟨(high, m), _, _, _, ?_, hstep, htaken.drive_step high m, hquiet,
    .emit_expire (.nil (by simp) (by simp) (by simp)) htaken.period hm,
    .inr (hgoes.of_unanswered (unanswered_holdOver _))⟩
  rw [telegramLeft, frameLeft_of_symbol hidx, List.drop_eq_getElem?_toList_append, hx]
  simp [holdOver, takeSymbol_sym_held, framesLeft]

/-- The transition in the termination gap: its first, or its second at the end of the last frame or of another. -/
theorem Sends.term_sends (h : Sends T c s) (hidx : s.symIdx.held = 12) (hgap : s.stepIdx.held < 2) :
    ∃ x rest u t, SendsOne T c x rest s u t := by
  have hreg := h.registers
  have hself : Sent T [] s s := .nil rfl rfl ⟨rfl, rfl, rfl, rfl⟩
  by_cases hk : s.stepIdx.held = 0
  · have hx : pulseTerm[s.stepIdx.held.toNat]? = some (true, 1) := by rw [hk]; rfl
    have hgoes := (hreg.drive true 1).holdOver.advance_gap rfl hidx hk
    refine ⟨(true, 1), _, _, _, ?_, h.term_step hidx hx, hreg.drive_step _ _, ⟨rfl, rfl⟩,
      .emit_expire hself hreg.period (by decide), .inr (hgoes.of_unanswered (unanswered_holdOver _))⟩
    rw [telegramLeft, frameLeft_of_gap hidx, hk]
    rfl
  · have hone : s.stepIdx.held = 1 := by bv_omega
    have hx : pulseTerm[s.stepIdx.held.toNat]? = some (false, 31) := by rw [hone]; rfl
    have hleft : telegramLeft s = (false, 31) :: framesLeft s (s.repLeft.held.toNat - 1) := by
      rw [telegramLeft, frameLeft_of_gap hidx, hone]
      rfl
    refine ⟨(false, 31), _, _, _, hleft, h.term_step hidx hx, hreg.drive_step _ _, ⟨rfl, rfl⟩,
      .emit_expire hself hreg.period (by decide), ?_⟩
    by_cases hrep : s.repLeft.held - 1 = 0
    · have hzero : s.repLeft.held.toNat - 1 = 0 := by
        have := hreg.frames
        bv_omega
      have hends := (hreg.drive false 31).holdOver.advance_last rfl hidx hk hrep
      exact .inl ⟨by rw [hzero]; rfl, hends.of_unanswered (unanswered_holdOver _)⟩
    · have hgoes := (hreg.drive false 31).holdOver.advance_frame rfl hidx hk hrep
      exact .inr (hgoes.of_unanswered (unanswered_holdOver _))

/-- Between two transitions the Transmitter sends one more. -/
theorem Sends.sends_one (h : Sends T c s) : ∃ x rest u t, SendsOne T c x rest s u t := by
  rcases h.place with ⟨hidx, hslot, hcode⟩ | ⟨hidx, hgap⟩
  · exact h.symbol_sends hidx hslot hcode
  · exact h.term_sends hidx hgap

/-! ## The whole telegram -/

theorem moves_succ {t : State} (h : step s = .next t) (n : Nat) : moves (n + 1) s = moves n t := by
  simp [moves, h]

/-- Nobody is answered in fewer than `n` moves from `s`. -/
def Silent (n : Nat) (s : State) : Prop := ∀ k, k < n → ∃ u, moves k s = .next u ∧ Unanswered s u

theorem silent_one (s : State) : Silent 1 s := by
  intro k hk
  obtain rfl : k = 0 := by omega
  exact ⟨s, rfl, rfl, rfl⟩

theorem Silent.succ {n : Nat} {t : State} (h : Silent n t) (hstep : step s = .next t) (hquiet : Unanswered s t) :
    Silent (n + 1) s := by
  intro k hk
  cases k with
  | zero => exact ⟨s, rfl, rfl, rfl⟩
  | succ k =>
    obtain ⟨u, hu, hunanswered⟩ := h k (by omega)
    exact ⟨u, (moves_succ hstep k).trans hu, hquiet.trans hunanswered⟩

/-- By induction on what is left to send: two moves for each transition, and the answer in the last of them. -/
theorem Sends.sends_left {l : List (Bool × Nat)} (h : Sends T c s) (hl : telegramLeft s = l) :
    (∃ t, moves (2 * l.length) s = .next t ∧ Sent T l s t ∧ Ended c s t) ∧ Silent (2 * l.length) s := by
  induction l generalizing s with
  | nil =>
    obtain ⟨x, rest, u, t, hone⟩ := h.sends_one
    simp [hone.left] at hl
  | cons y ys ih =>
    obtain ⟨x, rest, u, t, hleft, hemits, hexpires, hquiet, hsent, hafter⟩ := h.sends_one
    obtain ⟨rfl, rfl⟩ : x = y ∧ rest = ys := by simpa [hleft] using hl
    rcases hafter with ⟨rfl, hended⟩ | hgoes
    · exact ⟨⟨t, (moves_succ hemits 1).trans (moves_succ hexpires 0), hsent, hended.of_unanswered hquiet⟩,
        (silent_one u).succ hemits hquiet⟩
    · obtain ⟨⟨v, hmoves, hsent', hended⟩, hsilent⟩ := ih hgoes.sends hgoes.left
      exact ⟨⟨v, (moves_succ hemits _).trans ((moves_succ hexpires _).trans hmoves), hsent.trans hsent',
        hended.of_unanswered (hquiet.trans hgoes.quiet)⟩, (hsilent.succ hexpires hgoes.quiet).succ hemits hquiet⟩

end Run

/-! ## The transmission of a latched word -/

section Encoding
variable {s : State} {w : Word} {c : Caller}

/-- The Transmitter's step at PHASE = ENCODE loads the telegram (R77). -/
theorem AboutToSend.encode_step (h : AboutToSend s w c) : step s = .next (s.loadTelegram w) := by
  obtain ⟨hf, halone, -, hp, hcmd, -⟩ := h
  have htx : txSelect s = .code (.phase Phase.encode.code) := if_pos hp
  rw [step_of_nil hf halone, transmitMove_of_code htx]
  refine (execEncode_of_pending hf hp).trans ?_
  rw [readsAll_of_written _ _ _ (by simp [hcmd]), hcmd, Reg.wrote_held]

theorem AboutToSend.sends (h : AboutToSend s w c) : Sends (period w) c (s.loadTelegram w) := by
  have hslots := slotsLegal_encode12 (payload w)
  exact Transmitting.sends_of_step_zero
    ⟨h.noFault, h.alone, h.owned, rfl, rfl, h.writer, ⟨rfl, rfl, rfl, rfl, rfl⟩, (repeats_bounds w).1, hslots, hslots⟩
    rfl (by simp) rfl

/-- R87: after ENCODE the whole telegram is left to send. -/
theorem telegramLeft_loadTelegram (s : State) (w : Word) : telegramLeft (s.loadTelegram w) = telegramSpec w := by
  have hframes : 2 ^ (repExp w).toNat = 2 ^ (repExp w).toNat - 1 + 1 := by
    have := Nat.one_le_two_pow (n := (repExp w).toNat)
    omega
  rw [telegramLeft, frameLeft_of_step_zero (by simp) rfl, telegramSpec, hframes, List.replicate_succ, List.flatten_cons]
  simp [framesLeft, repeats_toNat, slotPulses_encode12]

end Encoding

/-- Settles O32: ENCODE leaves the telegram to send, and by induction on what is left it is sent, two moves a transition. -/
theorem transmissionSendsTelegram : Obligations.TransmissionSendsTelegram := by
  intro s w c h
  have hstep := h.encode_step
  obtain ⟨⟨t, hmoves, hsent, hended⟩, hsilent⟩ := h.sends.sends_left (telegramLeft_loadTelegram s w)
  rw [telegramSpec_length] at hmoves hsilent
  obtain ⟨⟨ts, htrace, hts, helapsed, hnow⟩, hcmd, hopen, hlife, hfaults⟩ := hsent
  obtain ⟨hlow, ⟨hidle, hwriter⟩, hresponses, hawait⟩ := hended
  rw [Nat.add_comm 1]
  exact ⟨⟨t, ts, (moves_succ hstep _).trans hmoves, htrace, hts, helapsed, hnow, hlow, hidle, hwriter,
    hcmd.trans h.command, hresponses, hawait, hopen, hlife, hfaults.trans h.noFault⟩,
    hsilent.succ hstep ⟨rfl, rfl⟩⟩

end Sys2Proof.Machine

/-! # The encodings

The decoder against the encoder, format by format, and the codes it rejects; the command word against its three fields; then
the steps that these codes select: the transitions of TERM, and the stops at codes that no operation has. -/

namespace Sys2Proof.Machine

/-! ## Decode and encode -/

/-- The eight `OP` codes (R61), WRITE first: it alone is decoded by its buffer too. -/
theorem op_cases (op : BitVec 3) :
    op = 0b100#3 ∨ op = 0b000#3 ∨ op = 0b001#3 ∨ op = 0b010#3 ∨ op = 0b011#3 ∨ op = 0b101#3 ∨ op = 0b110#3 ∨
      op = 0b111#3 := by
  revert op; decide

/-- The four symbol codes (R57). -/
theorem symbolCode_cases (code : BitVec 2) : code = 0b00#2 ∨ code = 0b01#2 ∨ code = 0b10#2 ∨ code = 0b11#2 := by
  revert code; decide

/-- What the decoder reads under a condition meets it (R58, R60, R68). -/
theorem of_ite_eq_ok {p : Prop} [Decidable p] {i j : Instr} {err : DecodeError}
    (h : (if p then Decoded.ok j else .rejected err) = .ok i) : p ∧ j = i := by
  split at h
  · rename_i hp
    exact ⟨hp, Decoded.ok.inj h⟩
  · cases h

/-- A WRITE is decoded exactly when its buffer holds `LEN` bytes (R60). -/
theorem decodeRequest_write (c : Caller) (len : Nat) (buf : List Byte) :
    decodeRequest ⟨0b100#3, c, len, buf⟩ =
      if buf.length = len then .ok (.writeReq c buf) else .rejected .bufferLength := rfl

theorem decode_encode (i : Instr) : decode (encode i) = .ok i := by
  cases i with
  | writeReq c buf => exact (decodeRequest_write c buf.length buf).trans (if_pos rfl)
  | _ => rfl

/-- `BUF` is the one field of a request that the encoder may leave out, and it keeps it for WRITE (R60). -/
theorem encode_of_decodeRequest {r : Request} {i : Instr} (h : decodeRequest r = .ok i) :
    encode i = (Encoding.request r).normal := by
  obtain ⟨op, c, len, buf⟩ := r
  rcases op_cases op with rfl | rfl | rfl | rfl | rfl | rfl | rfl | rfl
  · rw [decodeRequest_write] at h
    obtain ⟨rfl, rfl⟩ := of_ite_eq_ok h
    rfl
  all_goals cases h <;> rfl

theorem encode_of_decodeSymbol {code : BitVec 2} {i : Instr} (h : decodeSymbol code = .ok i) :
    encode i = .symbol code := by
  rcases symbolCode_cases code with rfl | rfl | rfl | rfl <;> cases h <;> rfl

theorem encode_of_decode {e : Encoding} {i : Instr} (h : decode e = .ok i) : encode i = e.normal := by
  cases e with
  | request r => exact encode_of_decodeRequest h
  | symbol code => exact encode_of_decodeSymbol h
  | phase code => obtain ⟨rfl, rfl⟩ := of_ite_eq_ok h; rfl
  | seqIndex code => obtain ⟨rfl, rfl⟩ := of_ite_eq_ok h; rfl
  | timing code => obtain ⟨rfl, rfl⟩ := of_ite_eq_ok h; rfl

/-- The encoder names the operation's own caller (R60). -/
theorem callerExists_encode (i : Instr) (n : Nat) : (encode i).callerExists n = i.wf n := by
  cases i <;> rfl

/-- Leaving `BUF` out leaves the caller (R60). -/
theorem callerExists_normal (e : Encoding) (n : Nat) : e.normal.callerExists n = e.callerExists n := by
  cases e with
  | request r => simp only [Encoding.normal, Encoding.callerExists]; split <;> rfl
  | _ => rfl

/-- Settles O1: the decoder inverts the encoder format by format, and the caller goes through the encoding. -/
theorem decodeEncodeAgree : Obligations.DecodeEncodeAgree := by
  refine ⟨decode_encode, fun _ _ h => encode_of_decode h, fun e i n h => ?_⟩
  calc i.wf n = (encode i).callerExists n := (callerExists_encode i n).symm
    _ = e.normal.callerExists n := by rw [encode_of_decode h]
    _ = e.callerExists n := callerExists_normal e n

/-! ## The codes without an operation -/

theorem decodeRequest_reservedOp_iff (r : Request) :
    decodeRequest r = .rejected .reservedOp ↔ r.op = 0b000#3 ∨ r.op = 0b111#3 := by
  obtain ⟨op, c, len, buf⟩ := r
  rcases op_cases op with rfl | rfl | rfl | rfl | rfl | rfl | rfl | rfl
  · rw [decodeRequest_write]
    split <;> simp
  all_goals simp [decodeRequest]

theorem decodeSymbol_symbolThree_iff (code : BitVec 2) :
    decodeSymbol code = .rejected .symbolThree ↔ code = 0b11#2 := by
  revert code; decide

theorem decode_seqIndex_rejected_iff (code : BitVec 4) :
    decode (.seqIndex code) = .rejected .seqIndexCode ↔ code ≠ 0b1100#4 := by
  simp [decode]

/-- Settles O3, by the codes of each format. -/
theorem reservedCodesRejected : Obligations.ReservedCodesRejected :=
  ⟨decodeRequest_reservedOp_iff, decodeSymbol_symbolThree_iff, decode_seqIndex_rejected_iff⟩

/-! ## The fields of a command word -/

theorem period_toNat (w : Word) : (period w).toNat = w.toNat / 2 ^ 23 % 2 ^ 9 := by
  simp [period, Nat.shiftRight_eq_div_pow]

theorem repExp_toNat (w : Word) : (repExp w).toNat = w.toNat / 2 ^ 20 % 2 ^ 3 := by
  simp [repExp, Nat.shiftRight_eq_div_pow]

theorem payload_toNat (w : Word) : (payload w).toNat = w.toNat % 2 ^ 20 := by
  simp [payload]

/-- R67: the fields do not overlap, so the ors of CMDW are sums. -/
theorem commandOf_toNat (t : BitVec 9) (r : BitVec 3) (p : BitVec 20) :
    (commandOf t r p).toNat = t.toNat * 2 ^ 23 + r.toNat * 2 ^ 20 + p.toNat := by
  rw [commandOf, toNat_append_eq_add, toNat_append_eq_add]
  omega

/-- R53, R54: the three fields are the whole word. -/
theorem commandOf_fields (w : Word) : commandOf (period w) (repExp w) (payload w) = w := by
  apply BitVec.eq_of_toNat_eq
  rw [commandOf_toNat, period_toNat, repExp_toNat, payload_toNat]
  omega

section Fields
variable (t : BitVec 9) (r : BitVec 3) (p : BitVec 20)

theorem period_commandOf : period (commandOf t r p) = t := by
  apply BitVec.eq_of_toNat_eq
  rw [period_toNat, commandOf_toNat]
  omega

theorem repExp_commandOf : repExp (commandOf t r p) = r := by
  apply BitVec.eq_of_toNat_eq
  rw [repExp_toNat, commandOf_toNat]
  omega

theorem payload_commandOf : payload (commandOf t r p) = p := by
  apply BitVec.eq_of_toNat_eq
  rw [payload_toNat, commandOf_toNat]
  omega

end Fields

/-- Settles O6: as numbers the fields are the digits of the word in the mixed base of R53. -/
theorem commandFieldsRoundTrip : Obligations.CommandFieldsRoundTrip :=
  ⟨commandOf_fields, fun t r p =>
    ⟨period_commandOf t r p, repExp_commandOf t r p, payload_commandOf t r p, commandOf_toNat t r p⟩⟩

/-! ## The termination gap -/

/-- TERM, where it is enabled, drives the transition of the gap that STEP selects (R84, R88). -/
theorem EmitsTerm.execTerm_eq {s : State} (h : EmitsTerm s) {high : Bool} {m : Nat}
    (hm : pulseTerm[s.stepIdx.held.toNat]? = some (high, m)) : exec .term s = .next (held s high m) := by
  obtain ⟨hf, ho, hp, hh, ⟨hidx, hstep, hperiod⟩, -⟩ := h
  refine (execTerm_of_owned hf hp hh ho ⟨by simp [hidx], hstep, hperiod⟩).trans ?_
  rw [if_pos (by simp [hidx]), emitTransition, hm]
  rfl

/-- Settles O22: the pulse table of the gap at STEP 0 and 1. -/
theorem termEmits : Obligations.TermEmits :=
  ⟨rfl, fun _ h => ⟨fun h0 => h.execTerm_eq (by rw [h0]; rfl), fun h1 => h.execTerm_eq (by rw [h1]; rfl)⟩⟩

/-! ## Codes that no operation has -/

theorem runCode_of_rejected {e : Encoding} {err : DecodeError} (hc : e.callerExists Config.nCallers = true)
    (hd : decode e = .rejected err) (s : State) : runCode e s = execRejected err e s := by
  simp [runCode, hc, hd]

theorem runCode_of_no_caller {e : Encoding} (hc : e.callerExists Config.nCallers = false) (s : State) :
    runCode e s = .refused .noSuchCaller := by
  simp [runCode, hc]

/-- Past the symbols the position selects the operation (R58). -/
theorem txSelect_past_symbols {s : State} (hp : s.phase = .wrote .send) (hh : s.holding = .wrote false)
    (hidx : s.symIdx.written = true) (hstep : s.stepIdx.written = true) (hpast : ¬ s.symIdx.held < 12) :
    txSelect s = .code (.seqIndex s.symIdx.held) := by
  simp only [txSelect, hp, hh, hidx, hstep, hpast]
  simp

/-- Past the gap no position has an operation (R58). -/
theorem runCode_of_unused_position {code : BitVec 4} (h : 12 < code) (s : State) :
    runCode (.seqIndex code) s = .fault .positionUnused := by
  have hne : code ≠ 0b1100#4 := by bv_omega
  exact runCode_of_rejected rfl ((decode_seqIndex_rejected_iff code).mpr hne) s

/-- A WRITE without its `LEN` bytes is no request (R60). -/
theorem runCode_of_buffer_not_presented {r : Request} (hc : r.caller.wf Config.nCallers = true)
    (hop : r.op = 0b100#3) (hlen : r.buf.length ≠ r.len) (s : State) :
    runCode (.request r) s = .refused .bufferNotPresented := by
  obtain ⟨op, c, len, buf⟩ := r
  obtain rfl : op = 0b100#3 := hop
  have hd : decode (.request ⟨0b100#3, c, len, buf⟩) = .rejected .bufferLength :=
    (decodeRequest_write c len buf).trans (if_neg hlen)
  exact runCode_of_rejected (e := .request ⟨0b100#3, c, len, buf⟩) hc hd s

/-- Settles O26: the selection past the gap, and the head request, run to a stop by name. -/
theorem unusedCodesStop : Obligations.UnusedCodesStop := by
  refine ⟨fun s hf hs hp hh hidx hstep hpast => ?_, fun s r rest hf hs hr => ?_⟩
  · have htx := txSelect_past_symbols hp hh hidx hstep (by bv_omega)
    rw [step_of_nil hf hs, transmitMove_of_code htx, runCode_of_unused_position hpast]
  · rw [step_of_free hf hs hr]
    exact ⟨fun hc => runCode_of_no_caller (e := .request r) hc _,
      fun hc hop hlen => runCode_of_buffer_not_presented hc hop hlen _⟩

end Sys2Proof.Machine

/-! # The encoder

The packing loop against `decode12`, in both directions, and the set of words it reaches; the fields of a command word
as numbers; then ENCODE itself, and what it and the EMITs leave unchanged. -/

namespace Sys2Proof.Machine

/-! ## Decoding a packed payload -/

theorem unpackTrits_eq_sum (a : BitVec 24) (n : Nat) :
    unpackTrits a n = ((List.range n).map (fun j => (slot a j).toNat * 3 ^ (11 - j))).sum := by
  induction n with
  | zero => rfl
  | succ n ih => simp [unpackTrits, ih, List.range_succ]

/-- The lowest `n` slots of a packed payload hold all its trits but the `12 - n` least significant (R74). -/
theorem unpackTrits_encode12 (p : BitVec 20) {n : Nat} (hn : n ≤ 12) :
    unpackTrits (encode12 p) n + p.toNat % 3 ^ (12 - n) = p.toNat % 3 ^ 12 := by
  induction n with
  | zero => simp [unpackTrits]
  | succ n ih =>
    have hexp : 12 - n = 11 - n + 1 := by omega
    have hnext : 12 - (n + 1) = 11 - n := by omega
    have hsplit : p.toNat % 3 ^ (12 - n) = p.toNat % 3 ^ (11 - n) + 3 ^ (11 - n) * trit p (11 - n) := by
      rw [hexp, Nat.mod_pow_succ, trit]
    rw [← ih (by omega), hsplit, hnext, unpackTrits, slot_encode12 p hn]
    ring

theorem decode12_encode12 (p : BitVec 20) : decode12 (encode12 p) = p.toNat % 3 ^ 12 := by
  simpa [decode12, Nat.mod_one] using unpackTrits_encode12 p (le_refl 12)

/-- Settles O9: each slot of a packed payload is a trit of it, so their weighted sum rebuilds its residue. -/
theorem decodeTwelveRoundTrip : Obligations.DecodeTwelveRoundTrip := by
  refine ⟨fun a _ => unpackTrits_eq_sum a 12, fun p _ => slot_encode12 p, fun p => ⟨decode12_encode12 p, ?_⟩⟩
  rw [decode12_encode12, Nat.mod_eq_iff_lt (by decide)]
  rfl

/-! ## Truncation -/

/-- `n` iterations of the packing loop read `n` trits of the quotient (R73). -/
theorem packTrits_mod (n q acc : Nat) : packTrits n (q % 3 ^ n) acc = packTrits n q acc := by
  induction n generalizing q acc with
  | zero => rfl
  | succ n ih =>
    rw [packTrits_succ, packTrits_succ, pow_succ', Nat.mod_mul_right_div_self, Nat.mod_mul_right_mod, ih]

theorem toNat_ofNat_of_lt_pow {n : Nat} (h : n < 3 ^ 12) : (BitVec.ofNat 20 n).toNat = n := by
  rw [BitVec.toNat_ofNat]
  omega

/-- Settles O7: the packing loop does not see past the twelfth trit; 20 bits leave at most 1 there. -/
theorem encodeTruncates : Obligations.EncodeTruncates := by
  refine ⟨fun p => ?_, fun p hp => by omega, by decide, by decide, by decide⟩
  have hlt : p.toNat % 531441 < 3 ^ 12 := Nat.mod_lt _ (by decide)
  apply BitVec.eq_of_toNat_eq
  rw [encode12_toNat, encode12_toNat, toNat_ofNat_of_lt_pow hlt]
  exact (packTrits_mod 12 p.toNat 0).symm

/-! ## The packed words -/

/-- The lowest `n` slots of a packed word read as one base-3 number, slot 0 the most significant digit (R78). -/
def slotsValue (a : BitVec 24) : Nat → Nat
  | 0 => 0
  | n + 1 => 3 * slotsValue a n + (slot a n).toNat

theorem unpackTrits_eq_slotsValue (a : BitVec 24) {n : Nat} (hn : n ≤ 12) :
    unpackTrits a n = slotsValue a n * 3 ^ (12 - n) := by
  induction n with
  | zero => exact (Nat.zero_mul _).symm
  | succ n ih =>
    have hexp : 12 - n = 11 - n + 1 := by omega
    have hnext : 12 - (n + 1) = 11 - n := by omega
    rw [unpackTrits, slotsValue, ih (by omega), hexp, hnext, pow_succ]
    ring

theorem decode12_eq_slotsValue (a : BitVec 24) : decode12 a = slotsValue a 12 :=
  (unpackTrits_eq_slotsValue a (le_refl 12)).trans (Nat.mul_one _)

section Legal
variable {a : BitVec 24} (h : SlotsLegal a)
include h

theorem SlotsLegal.slot_lt {j : Nat} (hj : j < 12) : (slot a j).toNat < 3 := by
  have hne : (slot a j).toNat ≠ 3 := fun heq => h j hj (BitVec.eq_of_toNat_eq heq)
  omega

theorem SlotsLegal.slotsValue_lt {n : Nat} (hn : n ≤ 12) : slotsValue a n < 3 ^ n := by
  induction n with
  | zero => exact Nat.one_pos
  | succ n ih =>
    have hslot := h.slot_lt hn
    have hrest := ih (by omega)
    rw [slotsValue, pow_succ]
    omega

/-- The packing loop takes the trits off the value from the highest slot down, and so rebuilds the word (R73). -/
theorem SlotsLegal.packTrits_slotsValue {n : Nat} (hn : n ≤ 12) (acc : Nat) :
    packTrits n (slotsValue a n) acc = 4 ^ n * acc + a.toNat % 4 ^ n := by
  induction n generalizing acc with
  | zero => simp [packTrits, Nat.mod_one]
  | succ n ih =>
    have hslot := h.slot_lt hn
    have hquot : (3 * slotsValue a n + (slot a n).toNat) / 3 = slotsValue a n := by omega
    have hrem : (3 * slotsValue a n + (slot a n).toNat) % 3 = (slot a n).toNat := by omega
    rw [packTrits_succ, slotsValue, hquot, hrem, ih (by omega), slot_toNat, Nat.mod_pow_succ]
    ring

theorem SlotsLegal.decode12_lt : decode12 a < 3 ^ 12 := by
  rw [decode12_eq_slotsValue]
  exact h.slotsValue_lt (le_refl 12)

theorem SlotsLegal.encode12_decode12 : encode12 (BitVec.ofNat 20 (decode12 a)) = a := by
  apply BitVec.eq_of_toNat_eq
  rw [encode12_toNat, toNat_ofNat_of_lt_pow h.decode12_lt, decode12_eq_slotsValue,
    h.packTrits_slotsValue (le_refl 12), Nat.mul_zero, Nat.zero_add]
  exact Nat.mod_eq_of_lt a.isLt

end Legal

/-- R76: the packed words are the words without a slot 3. -/
theorem exists_encode12_eq_iff (a : BitVec 24) : (∃ p : BitVec 20, encode12 p = a) ↔ SlotsLegal a := by
  refine ⟨?_, fun h => ⟨_, h.encode12_decode12⟩⟩
  rintro ⟨p, rfl⟩
  exact slotsLegal_encode12 p

/-- The payloads below `3 ^ 12` are packed into different words, since `decode12` gives them back (R78). -/
theorem injOn_encode12 : Set.InjOn (fun n => encode12 (BitVec.ofNat 20 n)) (Finset.range (3 ^ 12)) := by
  refine Set.LeftInvOn.injOn (f₁' := decode12) fun n hn => ?_
  have hlt : n < 3 ^ 12 := by simpa only [Finset.coe_range, Set.mem_Iio] using hn
  rw [decode12_encode12, toNat_ofNat_of_lt_pow hlt, Nat.mod_eq_of_lt hlt]

theorem range_encode12 :
    Set.range encode12 = (fun n => encode12 (BitVec.ofNat 20 n)) '' (Finset.range (3 ^ 12)) := by
  ext a
  constructor
  · intro ha
    have h := (exists_encode12_eq_iff a).mp ha
    exact ⟨decode12 a, Finset.mem_coe.mpr (Finset.mem_range.mpr h.decode12_lt), h.encode12_decode12⟩
  · rintro ⟨n, -, rfl⟩
    exact ⟨_, rfl⟩

theorem ncard_range_encode12 : (Set.range encode12).ncard = 3 ^ 12 := by
  rw [range_encode12, injOn_encode12.ncard_image, Set.ncard_coe_finset, Finset.card_range]

/-- Every appended digit is at most 2, so the packing stays below a third of twice the space (R76). -/
theorem packTrits_le (n q acc : Nat) : 3 * packTrits n q acc + 2 ≤ 4 ^ n * (3 * acc + 2) := by
  induction n generalizing q acc with
  | zero => simp [packTrits]
  | succ n ih =>
    calc 3 * packTrits (n + 1) q acc + 2
      _ = 3 * packTrits n (q / 3) (4 * acc + q % 3) + 2 := by rw [packTrits_succ]
      _ ≤ 4 ^ n * (3 * (4 * acc + q % 3) + 2) := ih _ _
      _ ≤ 4 ^ n * (4 * (3 * acc + 2)) := Nat.mul_le_mul_left _ (by omega)
      _ = 4 ^ (n + 1) * (3 * acc + 2) := by rw [pow_succ, Nat.mul_assoc]

theorem encode12_le (p : BitVec 20) : encode12 p ≤ 0xAAAAAA#24 := by
  have hle := packTrits_le 12 p.toNat 0
  rw [BitVec.le_def, encode12_toNat, BitVec.toNat_ofNat]
  omega

/-- Settles O8: `decode12` and the packing loop invert each other between the words without a slot 3 and the payloads
below `3 ^ 12`. -/
theorem encodeImage : Obligations.EncodeImage :=
  ⟨exists_encode12_eq_iff, ncard_range_encode12, by decide, encode12_le⟩

/-! ## The fields of a command word -/

/-- Settles O5: PERIOD is at the top of the word, so its shift leaves nothing to cut off. -/
theorem commandFields : Obligations.CommandFields := by
  refine fun w => ⟨?_, ?_, payload_toNat w⟩
  · rw [period_toNat]
    omega
  · rw [repeats_toNat, repExp_toNat]
    rfl

/-! ## ENCODE -/

theorem execEncode_of_cmd {s : State} {w : Word} (hf : s.faults = []) (hp : s.phase = .wrote .encode)
    (hcmd : s.cmd = .wrote w) : execEncode s = .next (s.loadTelegram w) := by
  rw [execEncode_of_pending hf hp, readsAll_of_written _ _ _ (by simp [hcmd]), hcmd, Reg.wrote_held]

/-- Settles O10: with CMD written ENCODE is `loadTelegram`; the corner cases and the example are computed. -/
theorem encodeLoadsTelegram : Obligations.EncodeLoadsTelegram := by
  refine ⟨rfl, fun s w => execEncode_of_cmd, ⟨by decide, by decide, by decide, fun w hw => ?_⟩,
    by decide, by decide, by decide⟩
  rw [repeats, hw]
  rfl

/-! ## Frames of ENCODE and EMIT -/

theorem execEncode_frame {s t : State} (h : execEncode s = .next t) :
    t = { s with
      period := t.period, repLeft := t.repLeft, acc := t.acc, work := t.work, symIdx := t.symIdx
      stepIdx := t.stepIdx, holding := t.holding, phase := t.phase, faults := t.faults } := by
  obtain ⟨-, -, ⟨-, rfl⟩ | rfl⟩ := execEncode_next h <;> rfl

/-- The slot is taken at STEP 0 alone (R88). -/
theorem takeSymbol_of_step_ne_zero {s : State} (h : s.stepIdx.held ≠ 0) : takeSymbol s = s := if_neg h

theorem takeSymbol_frame (s : State) :
    takeSymbol s = { s with sym := (takeSymbol s).sym, work := (takeSymbol s).work } := by
  by_cases h : s.stepIdx.held = 0
  · rw [takeSymbol, if_pos h]
    rfl
  · rw [takeSymbol_of_step_ne_zero h]

/-- The three symbols have one frame, whatever their pulses (R88). -/
theorem emitSymbol_frame {code : BitVec 2} {pulses : List (Bool × Nat)} {s t : State}
    (h : emitSymbol code pulses s = .next t) :
    t = { s with
      sym := t.sym, work := t.work, line := t.line, trace := t.trace, holdNom := t.holdNom
      holding := t.holding, faults := t.faults } ∧
    (s.stepIdx.held ≠ 0 → t.sym = s.sym ∧ t.work = s.work) := by
  obtain ⟨-, -, -, -, ⟨-, -, -, -, high, m, -, rfl⟩ | rfl⟩ := emitSymbol_next h
  · refine ⟨?_, fun hstep => ?_⟩
    · rw [takeSymbol_frame]
      rfl
    · rw [takeSymbol_of_step_ne_zero hstep]
      exact ⟨rfl, rfl⟩
  · exact ⟨rfl, fun _ => ⟨rfl, rfl⟩⟩

theorem execTerm_frame {s t : State} (h : execTerm s = .next t) :
    t = { s with
      line := t.line, trace := t.trace, holdNom := t.holdNom, holding := t.holding, faults := t.faults } := by
  obtain ⟨-, -, -, -, ⟨-, -, high, m, -, rfl⟩ | rfl⟩ := execTerm_next h <;> rfl

/-- Settles O49: ENCODE loads the telegram, a symbol takes its slot and drives the line, TERM drives the line; or they
fault. -/
theorem encodeAndEmitFrames : Obligations.EncodeAndEmitFrames := by
  refine fun s t => ⟨execEncode_frame, ?_, execTerm_frame⟩
  rintro (h | h | h) <;> exact emitSymbol_frame h

end Sys2Proof.Machine

/-! # The pulses

EMIT by the slot's code and STEP, and as the step takes it; EXPIRE with ADVANCE, case by case; what a request leaves of a
transmission; then the totals of a telegram. -/

namespace Sys2Proof.Machine

/-! ## EMIT of a symbol -/

theorem slot_zero (a : BitVec 24) : slot a 0 = a.setWidth 2 := by simp [slot]

theorem takeSlot_eq_slotTaken (s : State) : s.takeSlot = slotTaken s := by
  rw [State.takeSlot, slot_zero]
  rfl

theorem takeSymbol_eq_slotTaken (s : State) :
    takeSymbol s = if s.stepIdx.held = 0 then slotTaken s else s := by
  rw [takeSymbol, takeSlot_eq_slotTaken]

/-- The four transitions of a symbol, one per STEP; the slot is taken with the first (R88). -/
theorem EmitsSymbol.emitSymbol_steps {s : State} {code : BitVec 2} (h : EmitsSymbol s code)
    (p0 p1 p2 p3 : Bool × Nat) :
    (s.stepIdx.held = 0 → emitSymbol code [p0, p1, p2, p3] s = .next (held (slotTaken s) p0.1 p0.2)) ∧
    (s.stepIdx.held = 1 → emitSymbol code [p0, p1, p2, p3] s = .next (held s p1.1 p1.2)) ∧
    (s.stepIdx.held = 2 → emitSymbol code [p0, p1, p2, p3] s = .next (held s p2.1 p2.2)) ∧
    (s.stepIdx.held = 3 → emitSymbol code [p0, p1, p2, p3] s = .next (held s p3.1 p3.2)) := by
  have hemit {k : BitVec 2} {p : Bool × Nat} (hk : s.stepIdx.held = k)
      (hp : [p0, p1, p2, p3][k.toNat]? = some p) :
      emitSymbol code [p0, p1, p2, p3] s = .next (held (if k = 0 then slotTaken s else s) p.1 p.2) := by
    rw [h.emitSymbol_eq (by rw [hk]; exact hp), takeSymbol_eq_slotTaken, hk]
    rfl
  exact ⟨fun hk => hemit hk rfl, fun hk => hemit hk rfl, fun hk => hemit hk rfl, fun hk => hemit hk rfl⟩

/-- Settles O19: SYM0 is the symbol of slot code 0 with the pulses of R81. -/
theorem symZeroEmits : Obligations.SymZeroEmits := ⟨rfl, fun _ h => h.emitSymbol_steps _ _ _ _⟩

/-- Settles O20: SYM1 is the symbol of slot code 1 with the pulses of R82. -/
theorem symOneEmits : Obligations.SymOneEmits := ⟨rfl, fun _ h => h.emitSymbol_steps _ _ _ _⟩

/-- Settles O21: SYM2 is the symbol of slot code 2 with the pulses of R83. -/
theorem symTwoEmits : Obligations.SymTwoEmits := ⟨rfl, fun _ h => h.emitSymbol_steps _ _ _ _⟩

/-! ## EMIT by the position -/

/-- At a slot the selection is the slot's code (R58). -/
theorem EmitsSymbol.txSelect_eq {s : State} {code : BitVec 2} (h : EmitsSymbol s code) :
    txSelect s = .code (.symbol code) := by
  obtain ⟨-, -, hp, hh, ⟨hidx, hstep, -⟩, hlt, hslot, rfl⟩ := h
  simp only [txSelect, hp, hh, hidx, hstep, hlt, hslot]
  simp

/-- A trit's code runs the pulse of the table of R80 that STEP selects. -/
theorem EmitsSymbol.runCode_eq {s : State} {code : BitVec 2} (h : EmitsSymbol s code) (hcode : code ≠ 3)
    {x : Bool × Nat} (hx : (symbolPulses code.toNat)[s.stepIdx.held.toNat]? = some x) :
    runCode (.symbol code) s = .next (held (if s.stepIdx.held = 0 then slotTaken s else s) x.1 x.2) := by
  rw [← takeSymbol_eq_slotTaken]
  rcases symbolCode_cases code with rfl | rfl | rfl | rfl
  · exact h.emitSymbol_eq hx
  · exact h.emitSymbol_eq hx
  · exact h.emitSymbol_eq hx
  · exact absurd rfl hcode

/-- Slot code 3 has no symbol: EMIT records F_SYMBOL3 and sends nothing (R85). -/
theorem EmitsSymbol.runCode_three {s : State} (h : EmitsSymbol s 3) :
    runCode (.symbol 3) s = .next (stepFault s .symbolThree (.step .emit)) := by
  obtain ⟨hf, ho, hp, hh, ⟨hidx, hstep, -⟩, -, -⟩ := h
  calc runCode (.symbol 3) s = whenEmitting s (.next (s.raiseFault .symbolThree (.step .emit))) := rfl
    _ = .next (stepFault s .symbolThree (.step .emit)) := by
      rw [whenEmitting_of_owned hf hp hh ho, readsAll_of_written _ _ _ (by simp [hidx, hstep])]
      rfl

/-- The step in the termination gap runs TERM (R58, R84). -/
theorem EmitsTerm.step_eq {s : State} (h : EmitsTerm s) (halone : s.schedule = []) : step s = exec .term s := by
  obtain ⟨hidx, hstep, -⟩ := h.posRead
  have h12 : s.symIdx.held = 12 := by simp [hidx]
  have htx := txSelect_past_symbols h.sending h.noHold (by simp [hidx]) hstep (by simp [h12])
  rw [step_of_nil h.noFault halone, transmitMove_of_code htx, h12]
  rfl

/-- Settles O23: below position 12 the selection is the slot's code, at 12 it is TERM's. -/
theorem emitByPosition : Obligations.EmitByPosition := by
  intro s hf hs ho hp hh hidx hstep hperiod
  refine ⟨fun hlt hslot => ?_, fun h12 => ?_⟩
  · have hemits : EmitsSymbol s (slotCode s) := ⟨hf, ho, hp, hh, ⟨hidx, hstep, hperiod⟩, hlt, hslot, rfl⟩
    have hmove : step s = runCode (.symbol (slotCode s)) s :=
      (step_of_nil hf hs).trans (transmitMove_of_code hemits.txSelect_eq)
    rw [hmove]
    refine ⟨fun x hne hx => hemits.runCode_eq hne hx, fun h3 => ?_⟩
    rw [h3] at hemits ⊢
    exact hemits.runCode_three
  · have hpos : s.symIdx = .wrote 12 := (Reg.eq_wrote_iff _ _).mpr ⟨hidx, h12⟩
    have hemits (hgap : s.stepIdx.held < 2) : EmitsTerm s := ⟨hf, ho, hp, hh, ⟨hpos, hstep, hperiod⟩, hgap⟩
    refine ⟨fun h0 => ?_, fun h1 => ?_⟩
    · have hterm := hemits (by simp [h0])
      exact (hterm.step_eq hs).trans ((termEmits.2 s hterm).1 h0)
    · have hterm := hemits (by simp [h1])
      exact (hterm.step_eq hs).trans ((termEmits.2 s hterm).2 h1)

/-! ## ADVANCE, case by case -/

section Advance
variable {s : State}

theorem endsFrame_eq_true : endsFrame s = true ↔ ¬ s.symIdx.held < 12 ∧ s.stepIdx.held ≠ 0 := decide_eq_true_iff

theorem endsFrame_eq_false : endsFrame s = false ↔ s.symIdx.held < 12 ∨ s.stepIdx.held = 0 := by
  rw [← Bool.not_eq_true, endsFrame_eq_true]
  tauto

/-- One frame is left exactly when counting it leaves none. -/
theorem repLeft_sub_one_eq_zero (n : BitVec 8) : n - 1 = 0 ↔ n = 1 := by
  constructor <;> intro h <;> bv_omega

theorem endsTransmission_eq_true : endsTransmission s = true ↔ endsFrame s = true ∧ s.repLeft.held = 1 := by
  rw [endsTransmission, Bool.and_eq_true, beq_iff_eq, repLeft_sub_one_eq_zero]

/-- R90, within a symbol. -/
theorem advance_of_symbol (hidx : s.symIdx.held < 12) (hstep : s.stepIdx.held ≠ 3) :
    advance s = s.setPosition s.symIdx.held (s.stepIdx.held + 1) := by
  rw [advance, if_pos hidx, if_neg hstep]

/-- R90, at the end of a symbol. -/
theorem advance_of_symbol_end (hidx : s.symIdx.held < 12) (hstep : s.stepIdx.held = 3) :
    advance s = s.setPosition (s.symIdx.held + 1) 0 := by
  rw [advance, if_pos hidx, if_pos hstep]

/-- R90, within the termination gap. -/
theorem advance_of_gap (hidx : s.symIdx.held = 12) (hstep : s.stepIdx.held = 0) :
    advance s = s.setPosition 12 1 := by
  rw [advance, if_neg (by simp [hidx]), if_pos hstep, hidx]

/-- R90, at the end of a frame that is not the last. -/
theorem advance_of_frame_end (hend : endsFrame s = true) (hrep : s.repLeft.held ≠ 1) :
    advance s = (s.setPosition 0 0).countFrame.reloadWork := by
  obtain ⟨hidx, hstep⟩ := endsFrame_eq_true.mp hend
  rw [advance, if_neg hidx, if_neg hstep, endFrame, if_neg (mt (repLeft_sub_one_eq_zero _).mp hrep)]

/-- R90, at the end of the last frame. -/
theorem advance_of_last_frame_end (hend : endsFrame s = true) (hrep : s.repLeft.held = 1) :
    advance s = finishTransmission (s.setPosition 0 0).countFrame := by
  obtain ⟨hidx, hstep⟩ := endsFrame_eq_true.mp hend
  rw [advance, if_neg hidx, if_neg hstep, endFrame, if_pos ((repLeft_sub_one_eq_zero _).mpr hrep)]

/-- Within a frame ADVANCE writes the position alone (R90). -/
theorem advance_of_within_frame (hin : endsFrame s = false) :
    advance s = s.setPosition (advance s).symIdx.held (advance s).stepIdx.held := by
  rcases advance_cases s with ⟨-, -, h⟩ | ⟨-, -, h⟩ | ⟨-, -, h⟩ | ⟨hidx, hstep, -⟩ | ⟨hidx, hstep, -⟩
  · rw [h]; rfl
  · rw [h]; rfl
  · rw [h]; rfl
  · simp [endsFrame_eq_true.mpr ⟨hidx, hstep⟩] at hin
  · simp [endsFrame_eq_true.mpr ⟨hidx, hstep⟩] at hin

/-- What ADVANCE leaves unchanged in every case (R90). -/
theorem advance_frame (s : State) :
    advance s = { s with
      symIdx := (advance s).symIdx, stepIdx := (advance s).stepIdx, repLeft := (advance s).repLeft
      work := (advance s).work, phase := (advance s).phase, writer := (advance s).writer
      await := (advance s).await, responses := (advance s).responses } := by
  rcases advance_cases s with ⟨-, -, h⟩ | ⟨-, -, h⟩ | ⟨-, -, h⟩ | ⟨-, -, -, h⟩ | ⟨-, -, -, h⟩
  · rw [h]; rfl
  · rw [h]; rfl
  · rw [h]; rfl
  · rcases finishTransmission_cases (s.setPosition 0 0).countFrame with ⟨c, -, hfin⟩ | ⟨-, hfin⟩ <;>
      rw [h, hfin] <;> rfl
  · rw [h]; rfl

end Advance

/-! ## EXPIRE -/

section Expire
variable {s : State} (h : HoldEnds s)
include h

/-- EXPIRE where it is enabled and the registers that the end of a frame reads hold values (R89, R35). -/
theorem HoldEnds.exec_expire (hrep : endsFrame s = true → s.repLeft.written = true)
    (hacc : endsFrame s = true → s.repLeft.held ≠ 1 → s.acc.written = true)
    (hwriter : endsFrame s = true → s.repLeft.held = 1 → s.writer.written = true) :
    exec .expire s = .next (advance (holdOver s)) := by
  obtain ⟨hf, hp, hh, hnom, hidx, hstep⟩ := h
  refine (whenHolding_of_holding hf hp hh _).trans (readsAll_of_written _ _ _ ?_)
  cases hframe : endsFrame s with
  | false => simp [expireReads, endsTransmission, hframe, hnom, hidx, hstep]
  | true =>
    by_cases hlast : s.repLeft.held = 1
    · have hends : endsTransmission s = true := endsTransmission_eq_true.mpr ⟨hframe, hlast⟩
      simp [expireReads, hframe, hends, hnom, hidx, hstep, hrep hframe, hwriter hframe hlast]
    · have hends : endsTransmission s = false :=
        Bool.eq_false_iff.mpr fun hends => hlast (endsTransmission_eq_true.mp hends).2
      simp [expireReads, hframe, hends, hnom, hidx, hstep, hrep hframe, hacc hframe hlast]

/-- Within a frame EXPIRE reads HOLD_NOM and the position alone (R89). -/
theorem HoldEnds.exec_expire_within_frame (hin : endsFrame s = false) :
    exec .expire s = .next (advance (holdOver s)) :=
  h.exec_expire (by simp [hin]) (by simp [hin]) (by simp [hin])

/-- At the end of a frame that is not the last EXPIRE counts it and sends the next from ACC (R90). -/
theorem HoldEnds.exec_expire_frame_end (hend : endsFrame s = true) (hread : s.repLeft.written = true)
    (hrep : s.repLeft.held ≠ 1) (hacc : s.acc.written = true) :
    exec .expire s = .next ((holdOver s).setPosition 0 0).countFrame.reloadWork := by
  rw [h.exec_expire (fun _ => hread) (fun _ _ => hacc) (fun _ h1 => absurd h1 hrep),
    advance_of_frame_end (s := holdOver s) hend hrep]

/-- At the end of the last frame EXPIRE answers the writer (R90). -/
theorem HoldEnds.exec_expire_last_frame_end (hend : endsFrame s = true) (hrep : s.repLeft = .wrote 1)
    {c : Caller} (hwriter : s.writer = .wrote (some c)) :
    exec .expire s = .next (((holdOver s).setPosition 0 0).countFrame.respond c .ok 4).goIdle := by
  have hfin : finishTransmission ((holdOver s).setPosition 0 0).countFrame =
      (((holdOver s).setPosition 0 0).countFrame.respond c .ok 4).goIdle := by
    have hheld : ((holdOver s).setPosition 0 0).countFrame.writer.held = some c := congrArg Reg.held hwriter
    rw [finishTransmission, hheld]
  rw [h.exec_expire (by simp [hrep]) (by simp [hrep]) (by simp [hwriter]),
    advance_of_last_frame_end (s := holdOver s) hend (congrArg Reg.held hrep), hfin]

end Expire

/-- Settles O24: the hold's duration is the drawn one, and ADVANCE has its five cases. -/
theorem expireAdvances : Obligations.ExpireAdvances := by
  refine ⟨rfl, fun s h => ⟨_, inWindow_holdDuration s.holdNom.held.toNat s.draws, fun hidx hstep => ?_,
    fun hidx hstep => ?_, fun hidx hstep => ?_, fun hidx hstep hread hrep hacc => ?_,
    fun c hidx hstep hrep hwriter => ?_⟩⟩
  · rw [h.exec_expire_within_frame (endsFrame_eq_false.mpr (.inl hidx)), advance_of_symbol (s := holdOver s) hidx hstep]
    rfl
  · rw [h.exec_expire_within_frame (endsFrame_eq_false.mpr (.inl hidx)),
      advance_of_symbol_end (s := holdOver s) hidx hstep]
    rfl
  · rw [h.exec_expire_within_frame (endsFrame_eq_false.mpr (.inr hstep)), advance_of_gap (s := holdOver s) hidx hstep]
    rfl
  · have hend : endsFrame s = true := endsFrame_eq_true.mpr (by simp [hidx, hstep])
    have hreload : s.acc = .wrote s.acc.held := (Reg.eq_wrote_iff _ _).mpr ⟨hacc, rfl⟩
    rw [h.exec_expire_frame_end hend hread hrep hacc, hreload]
    rfl
  · have hend : endsFrame s = true := endsFrame_eq_true.mpr (by simp [hidx, hstep])
    have hcount : s.repLeft.held - 1 = 0 := by simp [hrep]
    rw [h.exec_expire_last_frame_end hend hrep hwriter, ← hcount]
    rfl

/-- ADVANCE writes PHASE, WRITER, AWAIT and the responses only at the end of the last frame (R90). -/
theorem advance_keeps_transmission {s : State}
    (hgoes : s.symIdx.held < 12 ∨ s.stepIdx.held = 0 ∨ s.repLeft.held ≠ 1) :
    (advance s).phase = s.phase ∧ (advance s).writer = s.writer ∧ (advance s).await = s.await ∧
      (advance s).responses = s.responses := by
  cases hend : endsFrame s with
  | false =>
    rw [advance_of_within_frame hend]
    exact ⟨rfl, rfl, rfl, rfl⟩
  | true =>
    obtain ⟨hidx, hstep⟩ := endsFrame_eq_true.mp hend
    have hrep : s.repLeft.held ≠ 1 := by tauto
    rw [advance_of_frame_end hend hrep]
    exact ⟨rfl, rfl, rfl, rfl⟩

/-- Settles O50: EXPIRE ends the hold and advances, or faults. -/
theorem expireFrame : Obligations.ExpireFrame := by
  intro s t h
  obtain ⟨-, -, -, ⟨-, rfl⟩ | rfl⟩ := execExpire_next h
  · refine ⟨?_, fun hin => ?_, advance_keeps_transmission (s := s.elapse _)⟩
    · rw [advance_frame]
      rfl
    · rw [advance_of_within_frame (s := s.elapse _) (endsFrame_eq_false.mpr hin)]
      exact ⟨rfl, rfl⟩
  · exact ⟨rfl, fun _ => ⟨rfl, rfl⟩, fun _ => ⟨rfl, rfl, rfl, rfl⟩⟩

/-! ## Requests during a transmission -/

/-- Settles O45: the effects of a request that write a register of the transmission need `PHASE = IDLE` or
`LIFE = UNINIT`. -/
theorem noCancellation : Obligations.NoCancellation := by
  intro i c s t hi hl hp h
  cases (exec_effect h).2 with
  | latched _ _ _ _ _ _ hidle => simp [hidle] at hp
  | released _ _ hidle => simp [hidle] at hp
  | started _ huninit => simp [hl] at huninit
  | failed _ huninit => simp [hl] at huninit
  | requestFault => constructor <;> simp
  | answer => constructor <;> simp
  | opened => constructor <;> simp
  | closed => constructor <;> simp
  | stepFault _ hnone => simp [hi] at hnone
  | symbolEmitted _ _ hsym => rcases hsym with rfl | rfl | rfl <;> cases hi
  | _ => cases hi

/-! ## The totals of a telegram -/

/-- Every symbol lasts eight periods (R80). -/
theorem symbolPulses_sum (n : Nat) : ((symbolPulses n).map (fun x => x.2)).sum = 8 := by
  unfold symbolPulses
  split <;> rfl

/-- Every symbol is high, low, high, low (R80). -/
theorem symbolPulses_levels (n : Nat) : (symbolPulses n).map (fun x => x.1) = [true, false, true, false] := by
  unfold symbolPulses
  split <;> rfl

/-- R86: twelve symbols of eight periods and a gap of 32. -/
theorem frameSpec_sum (w : Word) : ((frameSpec w).map (fun x => x.2)).sum = 128 := by
  simp [frameSpec, List.flatMap_def, List.sum_flatten, symbolPulses_sum, Function.comp_def]

theorem frameSpec_levels (w : Word) :
    (frameSpec w).map (fun x => x.1) = (List.replicate 25 [true, false]).flatten := by
  simp only [frameSpec, List.map_append, List.map_flatMap, symbolPulses_levels]
  rfl

theorem telegramSpec_sum (w : Word) :
    ((telegramSpec w).map (fun x => (timed (period w) x).2)).sum =
      2 ^ (repExp w).toNat * 128 * (period w).toNat := by
  simp [telegramSpec, timed, List.sum_map_mul_right, List.map_flatten, List.sum_flatten, frameSpec_sum, Nat.mul_assoc]

theorem telegramSpec_levels (w : Word) :
    (telegramSpec w).map (fun x => x.1) = (List.replicate (2 ^ (repExp w).toNat * 25) [true, false]).flatten := by
  rw [telegramSpec, List.map_flatten, List.map_replicate, frameSpec_levels, ← List.map_replicate, ← List.flatten_flatten,
    List.flatten_replicate_replicate]

/-- R87: the longest telegram has 128 frames at period 511. -/
theorem telegram_length_le (w : Word) : 2 ^ (repExp w).toNat * 128 * (period w).toNat ≤ 8372224 := by
  have hframes : 2 ^ (repExp w).toNat ≤ 128 := by simpa [repeats_toNat] using (repeats_bounds w).2
  calc 2 ^ (repExp w).toNat * 128 * (period w).toNat
    _ ≤ 128 * 128 * 511 := Nat.mul_le_mul (Nat.mul_le_mul_right _ hframes) (Nat.le_of_lt_succ (period w).isLt)
    _ = 8372224 := rfl

/-- Settles O31: the totals of a symbol give those of a frame, and a telegram is `2^r` equal frames. -/
theorem telegramTotals : Obligations.TelegramTotals := fun w =>
  ⟨frameSpec_length w, frameSpec_sum w, telegramSpec_length w, telegramSpec_sum w, telegram_length_le w,
    telegramSpec_levels w⟩

end Sys2Proof.Machine

/-! # The session

The answers of OPEN, CLOSE, READ, STARTUP and SHUTDOWN, check by check; two callers that open in turn; then a request
with a reserved `OP`. -/

namespace Sys2Proof.Machine

section FreeCaller
variable {s : State} {c : Caller} (h : CanIssue s c)
include h

/-! ## The checks of R94 at a free caller's request -/

theorem request_of_ready (hl : s.life = .ready) (q : Cause) (k : State → Result) :
    atPort c s (fun t => whenReady q t (k t)) = k (s.issue c) := by
  rw [atPort_of_free _ h.1 h.2, whenReady_of_ready (by simpa using hl)]

theorem request_not_ready (hl : s.life ≠ .ready) (q : Cause) (k : State → Result) :
    atPort c s (fun t => whenReady q t (k t)) = .next (requestFault s c .notReady q) := by
  rw [atPort_of_free _ h.1 h.2, whenReady_of_not_ready (by simpa using hl)]
  rfl

theorem request_of_open (hl : s.life = .ready) (ho : s.openCount = .wrote true) (q : Cause) (k : State → Result) :
    atPort c s (fun t => whenReady q t (whenOpen q t (k t))) = k (s.issue c) := by
  rw [request_of_ready h hl, whenOpen_of_open (by simpa using ho)]

theorem request_not_open (hl : s.life = .ready) (ho : s.openCount = .wrote false) (q : Cause) (k : State → Result) :
    atPort c s (fun t => whenReady q t (whenOpen q t (k t))) = .next (requestFault s c .notOpen q) := by
  rw [request_of_ready h hl, whenOpen_of_closed (by simpa using ho)]
  rfl

/-! ## OPEN, CLOSE and READ -/

/-- R98, R99: the test of the open-count and its set are one step. -/
theorem open_of_ready (hl : s.life = .ready) (hread : s.openCount.written = true) (len : Nat) :
    exec (.openReq c len) s =
      if s.sessionOpen then .next ((s.issue c).respond c .busy 0)
      else .next (((s.issue c).setOpenCount true).respond c .ok 0) := by
  rw [exec, execOpenReq, request_of_ready h hl, readsAll_of_written _ _ _ (by simpa using hread)]
  rfl

/-- R99: whoever holds the session, the opener itself included. -/
theorem open_busy (hl : s.life = .ready) (ho : s.openCount = .wrote true) (len : Nat) :
    exec (.openReq c len) s = .next (answered s c .busy 0) := by
  have hopen : s.sessionOpen = true := by simp [State.sessionOpen, ho]
  rw [open_of_ready h hl (by simp [ho]), if_pos hopen, issue_respond h.2]

theorem open_opens (hl : s.life = .ready) (ho : s.openCount = .wrote false) (len : Nat) :
    exec (.openReq c len) s = .next ((answered s c .ok 0).setOpenCount true) := by
  have hclosed : ¬ s.sessionOpen = true := by simp [State.sessionOpen, ho]
  rw [open_of_ready h hl (by simp [ho]), if_neg hclosed, ← issue_respond h.2]
  rfl

theorem close_closes (hl : s.life = .ready) (ho : s.openCount = .wrote true) (len : Nat) :
    exec (.closeReq c len) s = .next ((answered s c .ok 0).setOpenCount false) := by
  rw [exec, execCloseReq, request_of_open h hl ho, ← issue_respond h.2]
  rfl

theorem read_answers (hl : s.life = .ready) (ho : s.openCount = .wrote true) (len : Nat) :
    exec (.readReq c len) s = .next (answered s c .ok 0) := by
  rw [exec, execReadReq, request_of_open h hl ho, issue_respond h.2]

/-! ## STARTUP and SHUTDOWN -/

theorem startup_not_uninit (hl : s.life ≠ .uninit) (len : Nat) :
    exec (.startupReq c len) s = .next (requestFault s c .lifecycle (.request 0b101#3 c len)) := by
  rw [exec, execStartupReq, atPort_of_free _ h.1 h.2, if_neg (by simpa using hl)]
  rfl

/-- R95: the first STARTUP asks the line collaborator. -/
theorem startup_of_uninit (hl : s.life = .uninit) (len : Nat) :
    exec (.startupReq c len) s =
      .next (if Config.acquireOk Config.lineId then (answered s c .ok 0).becomeReady
        else (answered s c .lineFailure 0).becomeFailed) := by
  rw [exec, execStartupReq, atPort_of_free _ h.1 h.2, if_pos (by simpa using hl), ← issue_respond h.2,
    ← issue_respond h.2]
  rfl

/-- R96: the test for an open session or a transmission in flight, and the release of the line, are one step. -/
theorem shutdown_of_ready (hl : s.life = .ready) (ho : s.openCount.written = true) (hp : s.phase.written = true)
    (len : Nat) :
    exec (.shutdownReq c len) s =
      if s.sessionOpen || s.inFlight then .next (requestFault s c .lifecycle (.request 0b110#3 c len))
      else .next ((s.issue c).releaseLine.respond c .ok 0) := by
  rw [exec, execShutdownReq, request_of_ready h hl, readsAll_of_written _ _ _ (by simp [ho, hp])]
  rfl

theorem shutdown_in_use (hl : s.life = .ready) (hoRead : s.openCount.written = true) (hpRead : s.phase.written = true)
    (huse : s.openCount = .wrote true ∨ s.phase ≠ .wrote .idle) (len : Nat) :
    exec (.shutdownReq c len) s = .next (requestFault s c .lifecycle (.request 0b110#3 c len)) := by
  have hbusy : (s.sessionOpen || s.inFlight) = true := by
    rcases huse with ho | hp
    · simp [State.sessionOpen, ho]
    · have hheld : s.phase.held ≠ .idle := fun hidle => hp ((Reg.eq_wrote_iff _ _).mpr ⟨hpRead, hidle⟩)
      simp [hheld]
  rw [shutdown_of_ready h hl hoRead hpRead, if_pos hbusy]

theorem shutdown_releases (hl : s.life = .ready) (ho : s.openCount = .wrote false) (hp : s.phase = .wrote .idle)
    (len : Nat) : exec (.shutdownReq c len) s = .next (answered s c .ok 0).releaseLine := by
  have hfree : ¬ (s.sessionOpen || s.inFlight) = true := by simp [State.sessionOpen, State.inFlight, ho, hp]
  rw [shutdown_of_ready h hl (by simp [ho]) (by simp [hp]), if_neg hfree, ← issue_respond h.2]
  rfl

end FreeCaller

/-! ## The answers of each request -/

/-- Settles O16: the check of R94, then the session and the transmission, then the release. -/
theorem shutdownAnswers : Obligations.ShutdownAnswers := by
  intro s c len buf
  refine ⟨rfl, fun h => ⟨fun hl => ?_, fun hl ho hp huse => shutdown_in_use h hl ho hp huse len,
    fun hl ho hp => shutdown_releases h hl ho hp len⟩⟩
  rw [exec]
  exact request_not_ready h hl _ _

/-- Settles O11: the check of R94, then the open-count. -/
theorem openAnswers : Obligations.OpenAnswers := by
  intro s c len buf
  refine ⟨rfl, fun h => ⟨fun hl => ?_, fun hl ho => open_busy h hl ho len, fun hl ho => open_opens h hl ho len⟩⟩
  rw [exec]
  exact request_not_ready h hl _ _

/-- Settles O12: the checks of R94 in order, then the close, which reads no `PHASE`. -/
theorem closeAnswers : Obligations.CloseAnswers := by
  intro s c len buf
  refine ⟨rfl, fun h => ⟨fun hl => ?_, fun hl ho => ?_, fun hl ho => close_closes h hl ho len⟩⟩ <;> rw [exec]
  · exact request_not_ready h hl _ _
  · exact request_not_open h hl ho _ _

/-- Settles O13: the checks of R94 in order, then zero bytes, which no `LEN` alters. -/
theorem readAnswers : Obligations.ReadAnswers := by
  intro s c len buf
  refine ⟨rfl, fun h => ⟨fun hl => ?_, fun hl ho => ?_, fun hl ho => read_answers h hl ho len⟩⟩ <;> rw [exec]
  · exact request_not_ready h hl _ _
  · exact request_not_open h hl ho _ _

/-- Settles O15: STARTUP by `LIFE` and the collaborator's answer; every other request checks for READY. -/
theorem startupAnswers : Obligations.StartupAnswers := by
  intro s c len buf
  refine ⟨rfl, fun h => ⟨fun hl => startup_not_uninit h hl len, fun hl hrefused => ?_, fun hl hgranted => ?_,
    fun hfailed => ?_⟩⟩
  · rw [startup_of_uninit h hl, hrefused]
    rfl
  · rw [startup_of_uninit h hl, hgranted]
    rfl
  · have hl : s.life ≠ .ready := by simp [hfailed]
    simp only [exec]
    exact ⟨request_not_ready h hl _ _, request_not_ready h hl _ _, request_not_ready h hl _ _,
      request_not_ready h hl _ _, request_not_ready h hl _ _⟩

/-! ## Two callers -/

section OtherCaller
variable {s : State} {d : Caller}

/-- Answering one caller blocks no other (R32). -/
theorem CanIssue.answered (h : CanIssue s d) (c : Caller) (st : Status) (v : BitVec 32) :
    CanIssue (answered s c st v) d := h

theorem CanIssue.setOpenCount (h : CanIssue s d) {v : Bool} : CanIssue (s.setOpenCount v) d := h

end OtherCaller

/-- Settles O46: OPEN_COUNT as each request leaves it decides the answer of the next. -/
theorem sessionIsExclusive : Obligations.SessionIsExclusive := by
  intro s a b la lb lc ld ha hb hl ho
  refine ⟨_, _, _, _, open_opens ha hl ho la,
    open_busy (hb.answered _ _ _).setOpenCount hl rfl lb,
    close_closes ((ha.answered _ _ _).setOpenCount.answered _ _ _) hl rfl lc,
    open_opens (((hb.answered _ _ _).setOpenCount.answered _ _ _).answered _ _ _).setOpenCount hl rfl ld, ?_⟩
  simp [answered, State.setOpenCount]

/-! ## Reserved `OP` codes -/

/-- Settles O17: the decoder rejects the code before any operation could look at `LIFE`. -/
theorem reservedOpFaults : Obligations.ReservedOpFaults := by
  intro s r rest hf hs hr hc hop
  have hd : decode (.request r) = .rejected .reservedOp := (decodeRequest_reservedOp_iff r).mpr hop
  rw [step_of_free hf hs hr, runCode_of_rejected (e := .request r) hc hd, execRejected]
  exact atPort_of_free (s := { s with schedule := rest }) _ hf hr

end Sys2Proof.Machine

/-! # Faults and error responses

The block at rest waits (R124); a fault leaves one record and its caller blocked (R110, R115); an error response leaves
no trace but itself (R107, R108). -/

namespace Sys2Proof.Machine

/-! ## The block at rest -/

/-- Outside ENCODE and SEND the Transmitter has no step (R58, R68). -/
theorem txSelect_of_rest {s : State} (he : s.phase ≠ .wrote .encode) (hs : s.phase ≠ .wrote .send) :
    txSelect s = .disabled := by
  rw [txSelect, if_neg he, if_neg hs]

/-- Settles O34: with nothing scheduled the Transmitter would move, and its selection is disabled. -/
theorem idleWaits : Obligations.IdleWaits := by
  intro s hf hsched he hs
  rw [step_of_nil hf hsched, transmitMove_of_disabled (txSelect_of_rest he hs)]

/-! ## The state that a fault leaves -/

theorem issue_raiseFault (s : State) (c : Caller) (code : FaultCode) (q : Cause) :
    (s.issue c).raiseFault code q = requestFault s c code q := rfl

theorem raiseFault_eq_stepFault (s : State) (code : FaultCode) (q : Cause) :
    s.raiseFault code q = stepFault s code q := rfl

/-- Settles O37: of all effects only the faults of a request and of a Transmitter step add a record. -/
theorem faultChangesNothingElse : Obligations.FaultChangesNothingElse := by
  intro i s t h hfault
  obtain ⟨hf, heffect⟩ := exec_effect h
  cases heffect with
  | @requestFault _ c code q hi hc =>
    refine ⟨code, q, awaitInsert c s.await, ?_, .inl ⟨c, hi, hc, rfl⟩⟩
    simp [issue_raiseFault, requestFault, hf]
  | stepFault q hi =>
    refine ⟨.unwritten, q, s.await, ?_, .inr ⟨hi, rfl⟩⟩
    simp [raiseFault_eq_stepFault, stepFault, hf]
  | _ => simp [hf] at hfault

/-! ## The error responses -/

/-- The error responses have two causes: R99's BUSY and R103's INVALID_LENGTH. The Transmitter answers only OK, so the
operation is a request. -/
theorem exec_error_response {i : Instr} {s t : State} {c : Caller} {st : Status} {v : BitVec 32}
    (h : exec i s = .next t) (hresp : t.responses = s.responses ++ [⟨c, st, v⟩])
    (hst : st = .busy ∨ st = .invalidLength) :
    t = answered s c st 0 ∧
      ((st = .busy ∧ s.openCount = .wrote true ∧ ∃ len, i = .openReq c len) ∨
        (st = .invalidLength ∧ ∃ buf, i = .writeReq c buf ∧ buf.length ≠ 4)) := by
  have hok : st ≠ .ok := by rintro rfl; simp at hst
  have hline : st ≠ .lineFailure := by rintro rfl; simp at hst
  obtain ⟨r, hr, -, hcause⟩ := responsesOneAtATime i s t h (by simp [hresp])
  obtain rfl : r = ⟨c, st, v⟩ := by simpa [hr] using hresp
  obtain ⟨-, hokay, -⟩ | ⟨hreq, -⟩ := hcause
  · exact absurd hokay hok
  cases i with
  | openReq d len =>
    obtain rfl : d = c := by simpa [requester] using hreq
    obtain ⟨-, hc, ⟨-, ho, rfl⟩ | ⟨-, -, rfl⟩ | ⟨code, -, -, rfl⟩⟩ := execOpenReq_next h
    · obtain ⟨rfl, -⟩ : Status.busy = st ∧ 0 = v := by simpa using hresp
      exact ⟨issue_respond hc _ _, .inl ⟨rfl, ho, len, rfl⟩⟩
    · simp [hok.symm] at hresp
    · simp at hresp
  | writeReq d buf =>
    obtain rfl : d = c := by simpa [requester] using hreq
    obtain ⟨-, hc, ⟨-, -, hlen, rfl⟩ | ⟨b0, b1, b2, b3, -, -, -, -, rfl⟩ | ⟨code, q, -, -, rfl⟩⟩ :=
      execWriteReq_next h
    · obtain ⟨rfl, -⟩ : Status.invalidLength = st ∧ 0 = v := by simpa using hresp
      exact ⟨issue_respond hc _ _, .inr ⟨rfl, buf, rfl, hlen⟩⟩
    · simp at hresp
    · simp at hresp
  | closeReq d len =>
    obtain ⟨-, -, ⟨-, -, rfl⟩ | ⟨code, -, -, rfl⟩⟩ := execCloseReq_next h <;> simp [hok.symm] at hresp
  | readReq d len =>
    obtain ⟨-, -, ⟨-, -, rfl⟩ | ⟨code, -, -, rfl⟩⟩ := execReadReq_next h <;> simp [hok.symm] at hresp
  | startupReq d len =>
    obtain ⟨-, -, ⟨-, rfl⟩ | ⟨-, rfl⟩ | ⟨-, rfl⟩⟩ := execStartupReq_next h <;> simp [hok.symm, hline.symm] at hresp
  | shutdownReq d len =>
    obtain ⟨-, -, ⟨-, -, -, rfl⟩ | ⟨code, -, -, rfl⟩⟩ := execShutdownReq_next h <;> simp [hok.symm] at hresp
  | _ => cases hreq

/-- Settles O44: an error response has one of two causes, and each names its request and leaves the rest alone. -/
theorem errorResponsesChangeNothing : Obligations.ErrorResponsesChangeNothing := by
  intro i s t c st v h hresp hst
  obtain ⟨ht, ⟨rfl, ho, len, rfl⟩ | ⟨rfl, buf, rfl, hlen⟩⟩ := exec_error_response h hresp hst
  · exact ⟨ht, fun _ => ⟨ho, len, rfl⟩, by simp⟩
  · exact ⟨ht, by simp, fun _ => ⟨buf, rfl, hlen⟩⟩

end Sys2Proof.Machine

/-! # Power-on

The registers as the reset leaves them (R17, R125). -/

namespace Sys2Proof.Machine

/-- Settles O52: the registers with a stated value have it, and each of the others is blank. -/
theorem powerOnState : Obligations.PowerOnState := by
  refine ⟨rfl, rfl, rfl, fun _ => List.not_mem_nil, rfl, rfl, rfl, ?unwritten⟩
  case unwritten => and_intros <;> exact Reg.blank_written _

end Sys2Proof.Machine
